-- ==== Sys2Proof/Word.lean ====
section
/-! DEFINITION. The words of the loop and the table records (00 "Wire format"). -/

namespace Sys2Proof

/-- A 16-bit word of the loop, sent most significant byte first. -/
abbrev Word := BitVec 16

/-- An 8-bit field: a transaction number, a sequence number, a command code, the straps. -/
abbrev Byte := BitVec 8

end Sys2Proof
end

