-- ==== Sys2Proof/Syntax.lean ====
section
/-! DEFINITION. The commands of the block: one constructor per row of spec/opcode_table.json. -/

namespace Sys2Proof

/-- What the header of a COMMAND cell carries for the Command Unit (2.7): word B, word C, and the maintenance
flag of word A. -/
structure CellHeader where
  tag : Word
  transaction : Byte
  code : Byte
  maintenance : Bool
deriving DecidableEq, Repr

/-- The seven demand records (5.5, R29): the pumps, gates G0 and G1, zones 0 to 3. -/
inductive DemandTarget where
  | pumps
  | gate (g : Fin 2)
  | zone (z : Fin 4)
deriving DecidableEq, Repr

/-- The commands the block takes. A command cell's constructor carries its header and its operand words; where
the row's own name fixes the table (WRITE_TAG) or the kind (CLEAR_FAULT_PUMP), that first operand word is
supplied by the meaning and `ops` holds the words after it. -/
inductive Instr where
  /-- MASTER_RESET: the reset pin or power-up, with the straps and the levels of the digital inputs (R17). -/
  | masterReset (straps : Byte) (levels : Word)
  /-- FRAME_RECEIVED: the words from the end of one idle period of the line to the next (R2). -/
  | frameReceived (words : List Word)
  /-- DISCARDED_FRAME: the first word of a frame finds the reception buffer occupied (R4). -/
  | discardedFrame
  /-- FRAME_DEPARTURE: the waiting frame moves to departure (R16). -/
  | frameDeparture
  /-- FRAME_TIMEOUT: the frame timeout expires (R8). -/
  | frameTimeout
  /-- READ (R26). -/
  | read (h : CellHeader) (ops : List Word)
  /-- ERASE of the TAG table (R10). -/
  | eraseTag (h : CellHeader) (ops : List Word)
  /-- ERASE of the ACTION table (R85). -/
  | eraseAction (h : CellHeader) (ops : List Word)
  /-- FIND (R26). -/
  | find (h : CellHeader) (ops : List Word)
  /-- WRITE to the TAG table (R10). -/
  | writeTag (h : CellHeader) (ops : List Word)
  /-- WRITE to the ACTION table (R85). -/
  | writeAction (h : CellHeader) (ops : List Word)
  /-- WRITE to the SCENE table (R146). -/
  | writeScene (h : CellHeader) (ops : List Word)
  /-- WRITE to the THRESHOLD table (R70). -/
  | writeThreshold (h : CellHeader) (ops : List Word)
  /-- WRITE to the TRACKER table (R56). -/
  | writeTracker (h : CellHeader) (ops : List Word)
  /-- WRITE to the TRACKER_HOLD table (R56). -/
  | writeTrackerHold (h : CellHeader) (ops : List Word)
  /-- WRITE to the ANALOG table (R41). -/
  | writeAnalog (h : CellHeader) (ops : List Word)
  /-- WRITE to the DIGITAL table (R47). -/
  | writeDigital (h : CellHeader) (ops : List Word)
  /-- WRITE to the SCAN table (R36). -/
  | writeScan (h : CellHeader) (ops : List Word)
  /-- WRITE to the PUMP table (R105). -/
  | writePump (h : CellHeader) (ops : List Word)
  /-- WRITE to the PUMP_GROUP table (R106). -/
  | writePumpGroup (h : CellHeader) (ops : List Word)
  /-- WRITE to the GATE table (R128). -/
  | writeGate (h : CellHeader) (ops : List Word)
  /-- WRITE to the LAMP table (R145). -/
  | writeLamp (h : CellHeader) (ops : List Word)
  /-- WRITE to the BUDGET table (R155). -/
  | writeBudget (h : CellHeader) (ops : List Word)
  /-- WRITE to the REPORT table (R163). -/
  | writeReport (h : CellHeader) (ops : List Word)
  /-- WRITE to the GAIN table (R39). -/
  | writeGain (h : CellHeader) (ops : List Word)
  /-- STATUS (R28). -/
  | status (h : CellHeader) (ops : List Word)
  /-- SET_PLAN (R92). -/
  | setPlan (h : CellHeader) (ops : List Word)
  /-- DEMAND (R96). -/
  | demand (h : CellHeader) (ops : List Word)
  /-- RELEASE (R97). -/
  | release (h : CellHeader) (ops : List Word)
  /-- GATE_STOP (R140). -/
  | gateStop (h : CellHeader) (ops : List Word)
  /-- CLEAR_FAULT of kind 0 (R112). -/
  | clearFaultPump (h : CellHeader) (ops : List Word)
  /-- CLEAR_FAULT of kind 1 (R139). -/
  | clearFaultGate (h : CellHeader) (ops : List Word)
  /-- CLEAR_FAULT of kind 2 (R152). -/
  | clearFaultLamp (h : CellHeader) (ops : List Word)
  /-- CLEAR_ALARM (R77). -/
  | clearAlarm (h : CellHeader) (ops : List Word)
  /-- CONVERT (R37). -/
  | convert (h : CellHeader) (ops : List Word)
  /-- LINE_RESET (R31). -/
  | lineReset (h : CellHeader) (ops : List Word)
  /-- FORCE_LEVEL (R75). -/
  | forceLevel (h : CellHeader) (ops : List Word)
  /-- UNFORCE (R75). -/
  | unforce (h : CellHeader) (ops : List Word)
  /-- PRESET of kind 0 (R123). -/
  | presetRunSeconds (h : CellHeader) (ops : List Word)
  /-- PRESET of kind 1 (R77). -/
  | presetLossCounter (h : CellHeader) (ops : List Word)
  /-- CONVERSION_COMPLETE: the conversion in flight ends with this raw code (R34). -/
  | conversionComplete (raw : BitVec 12)
  /-- SAMPLE_TIMER_EXPIRY of a tracker (R53). -/
  | sampleTimerExpiry (t : Fin 4)
  /-- LOCK_SETTLE of a tracker (R60). -/
  | lockSettle (t : Fin 4)
  /-- LOCK_TIME_END of a tracker (R60). -/
  | lockTimeEnd (t : Fin 4)
  /-- SECOND_TICK (R74). -/
  | secondTick
  /-- HOLDOVER_TIMEOUT of a tracker (R66). -/
  | holdoverTimeout (t : Fin 4)
  /-- REVERT of a tracker (R64). -/
  | revert (t : Fin 4)
  /-- PRIMARY_WATCH_EXPIRY of a tracker (R64). -/
  | primaryWatchExpiry (t : Fin 4)
  /-- HOLD_EXPIRY of a demand record (R98). -/
  | holdExpiry (target : DemandTarget)
  /-- FILTERED_STATE_CHANGE of a digital input (R46). -/
  | filteredStateChange (i : Fin 16)
  /-- START_LOG_EXPIRY of a pump (R119). -/
  | startLogExpiry (p : Fin 4)
  /-- CONFIRM_EXPIRY of a pump (R108). -/
  | confirmExpiry (p : Fin 4)
  /-- RUN_ON_END of a pump (R111). -/
  | runOnEnd (p : Fin 4)
  /-- RELEASE_TIMER_EXPIRY (R161). -/
  | releaseTimerExpiry
  /-- LEAD_EXPIRY of a gate (R134). -/
  | leadExpiry (g : Fin 2)
  /-- TRAVEL_TIMEOUT of a gate (R135). -/
  | travelTimeout (g : Fin 2)
  /-- REVERSE_END of a gate (R136). -/
  | reverseEnd (g : Fin 2)
  /-- RAMP_TICK (R149). -/
  | rampTick
  /-- DIGITAL_INPUT_SAMPLE: the 1 ms tick, with the electrical level of every digital input (R46). -/
  | digitalInputSample (levels : Word)
  /-- FRAME_SENT: the downstream port becomes free (R4). -/
  | frameSent
deriving DecidableEq, Repr

end Sys2Proof
end

