-- ==== Sys2Proof/Config.lean ====
section
/-! DEFINITION. What the manual leaves to the implementation or leaves open, and the values that
State.reset names where the manual gives none. -/

namespace Sys2Proof

/-- The commands, known by name throughout the manual (00 "Commands and records"). -/
inductive CommandName where
  | read | write | erase | find | status | setPlan | demand | release | gateStop | clearFault
  | clearAlarm | convert | lineReset | forceLevel | unforce | preset
deriving DecidableEq, Repr

/-- FREE VALUE (log entry 5). The command that a code field selects, or none: "The code values are not
tabulated in this manual." Nothing is known of this function. -/
opaque Config.commandOfCode : Byte → Option CommandName

/-- FREE VALUE (log entry 6). Which order the n-th set of simultaneous notices is taken in, as the index of a
permutation. The rules say only that either may be taken first (R76, R90, R98, R100, R101, R115, R123). -/
opaque Config.noticeOrder : Nat → Nat

/-- DESIGN CHOICE (log entry 7): the strap value in State.reset. R12 reads it from the straps. -/
def Config.resetStraps : Byte := 0x2A

/-- DESIGN CHOICE (log entry 7): the electrical levels of the digital inputs in State.reset, all low but the
maintenance key (input 15, active low), which is left inactive. R51 samples them at the reset. -/
def Config.resetLevels : Word := 0x8000

/-- DESIGN CHOICE (log entry 7): the factory gain in State.reset. R39 fixes it at manufacture, 2048 to 4095. -/
def Config.factoryGain : Nat := 4000

/-- DESIGN CHOICE (log entry 7): the revision code in State.reset. R39 fixes it at manufacture. -/
def Config.revisionCode : Word := 0

end Sys2Proof
end

