-- ==== Sys2Proof/Machine/State.lean ====
section
/-! DEFINITION. The state of the block: plain data, every piece of state the manual names (INVENTORY.md, State). -/

namespace Sys2Proof.Machine

/-- A level band or effective band: `none` is U, unknown (00 "Numbering", R71). -/
abbrev Band := Option Nat

/-- The quality of a sample (00 "Terms"). -/
inductive Quality where
  | good | invalid
deriving DecidableEq, Repr

/-! ## Time base -/

/-- The time base (R1). `now` is its reading in ms since the master reset; the two phases count the ms since the
last second tick and since the last ramp tick (log entry 1). -/
structure TimeBase where
  now : Nat
  seconds : BitVec 32
  msToSecond : Nat
  msToRamp : Nat
deriving DecidableEq, Repr

/-! ## Loop Interface -/

/-- The loop state (1.3). -/
inductive LoopState where
  | up | lost
deriving DecidableEq, Repr

/-- A classified frame held in the reception buffer (R4): good or damaged, its header word as received and its
body, as changed by R7 when it is good. -/
structure HeldFrame where
  good : Bool
  header : Word
  body : List Word
deriving DecidableEq, Repr

/-- The Loop Interface (R8, R9, R17). `timerFrom` is when the frame timeout was last restarted, `none` while it is
stopped; `lostAt` is the moment from which R165 measures the outage. `tailBase` is the station base that governs the
departure of the frame last accepted, taken before that frame's own writes (R12). `departing` is the frame being sent,
`none` while the downstream port is free. -/
structure LoopInterface where
  state : LoopState
  timerFrom : Option Nat
  lastGood : Option Nat
  lostAt : Nat
  damaged : Nat
  discarded : Nat
  straps : Byte
  tailBase : Word
  reception : Option HeldFrame
  departing : Option (List Word)
deriving DecidableEq, Repr

/-- What the Tag Table says of a matching cell (1.4). -/
inductive Disposition where
  | execute | executeForward | capture | pass
deriving DecidableEq, Repr

/-- A Tag Table entry (1.4). -/
structure TagEntry where
  valid : Bool
  base : Word
  mask : Word
  kinds : Word
  disposition : Disposition
  slot : Fin 8
  element : Fin 4
deriving DecidableEq, Repr

/-- A Remote Sample Slot (1.5). -/
structure Slot where
  filled : Bool
  value : Nat
  quality : Quality
  sequence : Byte
  arrival : Nat
deriving DecidableEq, Repr

/-! ## Command Unit and Reply Queue -/

/-- The frame command state (2.1). -/
structure CommandUnit where
  queueFullSeen : Bool
  refusalSeen : Bool
deriving DecidableEq, Repr

/-- What a Reply Queue entry records of its command (R18). -/
structure ReplyTo where
  tag : Word
  transaction : Byte
  code : Byte
deriving DecidableEq, Repr

/-- The Reply Queue (R23): reserved entries, and completed ones with their cells, oldest completion first. -/
structure ReplyQueue where
  reserved : List ReplyTo
  completed : List (List Word)
deriving DecidableEq, Repr

/-! ## Input Unit and Factory Store -/

/-- What a conversion was started for (3.1). -/
inductive ConversionKind where
  | scan | oneShot
deriving DecidableEq, Repr

/-- The conversion in flight (3.1, R34). -/
structure Conversion where
  input : Fin 16
  kind : ConversionKind
  start : Nat
deriving DecidableEq, Repr

/-- The one-shot slot (3.2). -/
inductive OneShot where
  | empty
  | waiting (input : Fin 16) (reply : ReplyTo)
  | inFlight (input : Fin 16) (reply : ReplyTo)
deriving DecidableEq, Repr

/-- The converter (3.1): IDLE while `inFlight` is `none`. -/
structure Converter where
  inFlight : Option Conversion
  scanList : List (Fin 16)
  position : Nat
  restart : Bool
  slot : OneShot
deriving DecidableEq, Repr

/-- The Factory Store (R39). -/
structure FactoryStore where
  gain : Nat
  revision : Word
deriving DecidableEq, Repr

/-- The role of an analog input (3.4). -/
inductive AnalogRole where
  | none | level | current
deriving DecidableEq, Repr

/-- The cause kept with an analog input's quality (3.4). -/
inductive AnalogCause where
  | none | overRange | wireBreak | noRole
deriving DecidableEq, Repr

/-- The configured part of an analog input record (3.4). -/
structure AnalogConfig where
  role : AnalogRole
  zero : Nat
  scale : Nat
  floor : Nat
deriving DecidableEq, Repr

/-- An analog input record (3.4). -/
structure Analog where
  config : AnalogConfig
  raw : Nat
  corrected : Nat
  value : Nat
  quality : Quality
  cause : AnalogCause
  time : Option Nat
deriving DecidableEq, Repr

/-- The event edges of a digital input (3.6). -/
inductive Edges where
  | none | activate | deactivate | both
deriving DecidableEq, Repr

/-- The configured part of a digital input (3.6). -/
structure DigitalConfig where
  activeLow : Bool
  debounce : Nat
  edges : Edges
deriving DecidableEq, Repr

/-- A digital input (3.6). `changeDue` is the model's own: the last sample carried the disagreement run past the
debounce time, so the change of R46 is due (log entry 11). -/
structure Digital where
  config : DigitalConfig
  level : Bool
  raw : Bool
  filtered : Bool
  run : Nat
  changeDue : Bool
  changed : Bool
deriving DecidableEq, Repr

/-! ## Level Trackers -/

/-- What a tracker takes samples from (R52). -/
inductive Source where
  | analog (i : Fin 16)
  | slot (j : Fin 8)
deriving DecidableEq, Repr

/-- The TRACKER record (4.2). -/
structure TrackerConfig where
  primary : Option Source
  secondary : Option Source
  acquireShift : Nat
  trackShift : Nat
  stepLimit : Nat
  lockThreshold : Nat
  lockTime : Nat
  unlockCount : Nat
  sampleTimeout : Nat
deriving DecidableEq, Repr

/-- The TRACKER_HOLD record (4.2). -/
structure HoldConfig where
  history : Nat
  timeout : Nat
  window : Nat
  surgeRate : Nat
  surgeHysteresis : Nat
  offsetLimit : Nat
  bleed : Nat
  revertTime : Nat
  floatInput : Option (Fin 16)
  floatBand : Nat
  alarmThreshold : Nat
deriving DecidableEq, Repr

/-- One pair of the THRESHOLD record (4.7). -/
structure Threshold where
  level : Nat
  hysteresis : Nat
deriving DecidableEq, Repr

/-- The tracker states (4.4). -/
inductive TrackerState where
  | freerun | acquire | tracking | holdover | forced
deriving DecidableEq, Repr

/-- The phases of ACQUIRE (R60). -/
inductive Phase where
  | fast | settle
deriving DecidableEq, Repr

/-- The active source (R52). -/
inductive Active where
  | none | primary | secondary
deriving DecidableEq, Repr

/-- An entry of the history ring (R68). -/
structure HistoryEntry where
  level : Nat
  valid : Bool
deriving DecidableEq, Repr

/-- A level tracker (chapter 4). Timers are kept as the moment they started or, for the sample timer, the active
source's last arrival; `none` is stopped. `rate` is the reported rate. -/
structure Tracker where
  config : TrackerConfig
  hold : HoldConfig
  thresholds : List Threshold
  state : TrackerState
  phase : Phase
  active : Active
  accumulator : Nat
  estimate : Nat
  offset : Int
  lockFrom : Option Nat
  unlockRun : Nat
  sampleFrom : Option Nat
  watch : Option Nat
  holdLevel : Nat
  heldRate : Int
  holdSeconds : Nat
  ring : List HistoryEntry
  rate : Int
  rateValid : Bool
  lastRate : Option Int
  band : Band
  surge : Bool
  effective : Band
  loss : Nat
  alarm : Bool
deriving DecidableEq, Repr

/-! ## Action Unit and Demand Set -/

/-- The value of a gate demand (5.5). -/
inductive GateDemand where
  | none | open | close
deriving DecidableEq, Repr

/-- The edge of an action key (5.2). -/
inductive Edge where
  | enter | leave
deriving DecidableEq, Repr

/-- An item of an action entry (R84). -/
inductive Item where
  | pumps (n : Nat)
  | gate (g : Fin 2) (value : GateDemand)
  | scene (z : Fin 4) (scene : Fin 16)
  | plan (p : Fin 8)
  | event (code : Byte)
deriving DecidableEq, Repr

/-- An action table entry (R83). `plans` is the plan set. -/
structure ActionEntry where
  valid : Bool
  tracker : Fin 4
  band : Band
  edge : Edge
  plans : Byte
  items : List Item
deriving DecidableEq, Repr

/-- The supervisory part of a demand record: a value and the remaining hold in seconds, 0 for no expiry (5.5). -/
structure Supervisory (α : Type) where
  value : α
  hold : Nat
deriving DecidableEq, Repr

/-- A demand record (5.5). -/
structure DemandRecord (α : Type) where
  automatic : α
  entry : Option (Fin 64)
  supervisory : Option (Supervisory α)
deriving DecidableEq, Repr

/-- The Demand Set (5.5). -/
structure Demands where
  pumps : DemandRecord Nat
  gates : Vector (DemandRecord GateDemand) 2
  zones : Vector (DemandRecord (Fin 16)) 4
deriving DecidableEq, Repr

/-! ## Pump Group -/

/-- The pump states (6.2). -/
inductive PumpState where
  | disabled | idle | starting | running | runOn | locked
deriving DecidableEq, Repr

/-- The causes of a pump's state change (R113). -/
inductive PumpCause where
  | demand | feedback | runOnEnd | failToStart | runLost | tripped | dryStop | loadStop | cleared | config
deriving DecidableEq, Repr

/-- The PUMP record (6.1). -/
structure PumpConfig where
  available : Bool
  feedback : Fin 16
  fault : Option (Fin 16)
  rated : Nat
  start : Nat
  confirm : Nat
  minimumRun : Nat
  runOn : Nat
  startsPerHour : Nat
  planMask : Byte
deriving DecidableEq, Repr

/-- A pump (chapter 6). -/
structure Pump where
  config : PumpConfig
  state : PumpState
  cause : Option PumpCause
  confirmFrom : Option Nat
  runOnFrom : Option Nat
  runStart : Option (BitVec 32)
  startLog : List (BitVec 32)
  runSeconds : BitVec 32
deriving DecidableEq, Repr

/-- The unmet reasons (R122), in the order of R125. -/
inductive Unmet where
  | none | noPump | starts | load | dry | masked
deriving DecidableEq, Repr

/-- The PUMP_GROUP record (6.1). -/
structure GroupConfig where
  sump : Fin 4
  dryBand : Option Nat
  stagger : Nat
deriving DecidableEq, Repr

/-- The state of the pump group (chapter 6). `demand` is the effective pump demand as last told (R115);
`waiting` is the start-waiting-for-load mark, which the Load Allocator reads too (log entry 22). -/
structure PumpGroup where
  config : GroupConfig
  lastStart : Nat
  reason : Unmet
  waiting : Bool
  demand : Nat
deriving DecidableEq, Repr

/-! ## Flood Gates -/

/-- The gate states (7.2). -/
inductive GateState where
  | absent | opened | warning | closing | closed | opening | reversing | stopped | fault
deriving DecidableEq, Repr

/-- The details of a gate's state change (R141). -/
inductive GateDetail where
  | demand | leadEnd | limit | obstruction | retry | obstructed | travel | limits | stop | cleared
  | config | drift | reopen
deriving DecidableEq, Repr

/-- The GATE record (7.1). `warning` is the set of warning channels. -/
structure GateConfig where
  present : Bool
  openLimit : Fin 16
  closedLimit : Fin 16
  obstruction : Option (Fin 16)
  travel : Nat
  lead : Nat
  degraded : Nat
  warning : Byte
  reverse : Nat
  retryLimit : Nat
  tracker : Fin 4
  band : Nat
deriving DecidableEq, Repr

/-- A gate controller (chapter 7). Each timer is kept as the moment it started. -/
structure Gate where
  config : GateConfig
  state : GateState
  detail : Option GateDetail
  demand : GateDemand
  leadFrom : Option Nat
  leadInForce : Option Nat
  travelFrom : Option Nat
  reverseFrom : Option Nat
  retry : Nat
  held : Bool
deriving DecidableEq, Repr

/-! ## Lamp Controller -/

/-- The roles of a lamp channel (8.1). -/
inductive LampRole where
  | general | warn
deriving DecidableEq, Repr

/-- The verdict of a check run (R152). -/
inductive Verdict where
  | none | pass | fail
deriving DecidableEq, Repr

/-- The LAMP record (8.1). -/
structure LampConfig where
  role : LampRole
  zone : Fin 4
  fullLoad : Nat
  rampRate : Nat
  floor : Nat
  current : Option (Fin 16)
  fullCurrent : Nat
  tolerance : Nat
deriving DecidableEq, Repr

/-- A lamp channel (chapter 8). Bit g of `forcing` is set while gate g forces the channel. -/
structure Lamp where
  config : LampConfig
  target : Nat
  output : Nat
  forcing : BitVec 2
  limited : Bool
  lastChange : Nat
  fault : Bool
  verdict : Verdict
  count : Nat
  measured : Option Nat
  expected : Option Nat
deriving DecidableEq, Repr

/-! ## Load Allocator -/

/-- The supply mode (R156). -/
inductive SupplyMode where
  | mains | standby
deriving DecidableEq, Repr

/-- The BUDGET record (9.1). -/
structure Budget where
  mains : Nat
  standby : Nat
  supply : Option (Fin 16)
  release : Nat
  isolation : Option (Fin 8)
deriving DecidableEq, Repr

/-- The Load Allocator (chapter 9). Committed load is computed from the pumps and lamps (log entry 22). `writtenAt` is the
moment of the last accepted BUDGET write: a release timer that it finds at or beyond the new time expires at the next tick,
so not at that moment (R155). -/
structure Allocator where
  budget : Budget
  mode : SupplyMode
  stage : Nat
  releaseFrom : Option Nat
  writtenAt : Option Nat
deriving DecidableEq, Repr

/-! ## Event Set and Beacon Generator -/

/-- The REPORT record (10.1). -/
structure Report where
  period : Nat
  timeout : Nat
  enables : BitVec 22
deriving DecidableEq, Repr

/-- The record of one event source (chapter 10). -/
structure EventRecord where
  pending : Bool
  detail : List Word
  count : Nat
deriving DecidableEq, Repr

/-- The Event Set (chapter 10). -/
structure EventSet where
  records : Vector EventRecord 22
  sequence : Byte
deriving DecidableEq, Repr

/-- The Beacon Generator (R167). -/
structure Beacon where
  counter : Nat
  due : Bool
  sequence : Byte
deriving DecidableEq, Repr

/-! ## The whole -/

/-- The state of the block. `arbiter` and `pending` are the model's own: the index of the next free order of
notices (log entry 6), and the queue of commands waiting, first in, first out. -/
structure State where
  time : TimeBase
  loop : LoopInterface
  tags : Vector TagEntry 16
  slots : Vector Slot 8
  unit : CommandUnit
  replies : ReplyQueue
  converter : Converter
  gain : Nat
  factory : FactoryStore
  analog : Vector Analog 16
  digital : Vector Digital 16
  trackers : Vector Tracker 4
  plan : Fin 8
  actions : Vector ActionEntry 64
  demands : Demands
  pumps : Vector Pump 4
  group : PumpGroup
  gates : Vector Gate 2
  lamps : Vector Lamp 8
  scenes : Vector (Vector Nat 8) 16
  allocator : Allocator
  report : Report
  events : EventSet
  beacon : Beacon
  arbiter : Nat
  pending : List Instr
deriving DecidableEq, Repr

/-- The reasons a command could stop the machine with a fault. There are none: the manual gives every command of
the table an effect, and a command that is not due or not allowed leaves a next state. -/
inductive Fault where
deriving DecidableEq, Repr

/-- The reasons the machine could refuse a command. -/
inductive Refusal where
  /-- Raised by no arm: every command of the table has its meaning. It would be raised by exec for a command
  whose meaning is not written yet, and is safe. -/
  | notModelled (mnemonic : String)
deriving DecidableEq, Repr

/-! ## The values after master reset -/

/-- Tag Table entry n after master reset (R10, R12). -/
def resetTag (straps : Byte) (n : Fin 16) : TagEntry :=
  if n = 0 then
    { valid := true, base := straps ++ (0 : Byte), mask := 0x00FF, kinds := 0x0002, disposition := .execute,
      slot := 0, element := 0 }
  else
    { valid := false, base := 0, mask := 0, kinds := 0, disposition := .execute, slot := 0, element := 0 }

/-- An empty Remote Sample Slot (R13). -/
def emptySlot : Slot := { filled := false, value := 0, quality := .invalid, sequence := 0, arrival := 0 }

/-- An analog input record after master reset (R51). -/
def resetAnalog : Analog :=
  { config := { role := .none, zero := 0, scale := 0, floor := 0 }, raw := 0, corrected := 0, value := 0,
    quality := .invalid, cause := .noRole, time := none }

/-- The configuration of digital input n after master reset; that of input 15 is fixed (R47, R51). -/
def resetDigitalConfig (n : Fin 16) : DigitalConfig :=
  if n = 15 then { activeLow := true, debounce := 20, edges := .both }
  else { activeLow := false, debounce := 10, edges := .none }

/-- Digital input n after a master reset that samples this level (R51). -/
def resetDigital (levels : Word) (n : Fin 16) : Digital :=
  let level := levels.getLsbD n
  let active := level != (resetDigitalConfig n).activeLow
  { config := resetDigitalConfig n, level := level, raw := active, filtered := active, run := 0,
    changeDue := false, changed := false }

/-- An invalid entry of the history ring (R68). -/
def emptyHistory : HistoryEntry := { level := 0, valid := false }

/-- A tracker after master reset (4.2, R79). -/
def resetTracker : Tracker :=
  { config :=
      { primary := none, secondary := none, acquireShift := 2, trackShift := 5, stepLimit := 65535,
        lockThreshold := 50, lockTime := 10, unlockCount := 3, sampleTimeout := 2000 },
    hold :=
      { history := 8, timeout := 600, window := 10, surgeRate := 0, surgeHysteresis := 60, offsetLimit := 100,
        bleed := 1, revertTime := 30, floatInput := none, floatBand := 0, alarmThreshold := 3 },
    thresholds := [], state := .freerun, phase := .fast, active := .none, accumulator := 0, estimate := 0,
    offset := 0, lockFrom := none, unlockRun := 0, sampleFrom := none, watch := none, holdLevel := 0,
    heldRate := 0, holdSeconds := 0, ring := List.replicate 16 emptyHistory, rate := 0, rateValid := false,
    lastRate := none, band := none, surge := false, effective := none, loss := 0, alarm := false }

/-- An action table entry after master reset (R86). -/
def resetAction : ActionEntry :=
  { valid := false, tracker := 0, band := some 0, edge := .enter, plans := 0, items := [.pumps 0] }

/-- A demand record after either reset (R103). -/
def resetDemand {α : Type} (value : α) : DemandRecord α :=
  { automatic := value, entry := none, supervisory := none }

/-- The Demand Set after either reset (R103). -/
def resetDemands : Demands :=
  { pumps := resetDemand 0, gates := Vector.replicate 2 (resetDemand .none),
    zones := Vector.replicate 4 (resetDemand 0) }

/-- Pump n after master reset (6.1, R126). -/
def resetPump (n : Fin 4) : Pump :=
  { config :=
      { available := false, feedback := n.castLE (by decide), fault := none, rated := 0, start := 0,
        confirm := 10, minimumRun := 0, runOn := 0, startsPerHour := 15, planMask := 0 },
    state := .disabled, cause := none, confirmFrom := none, runOnFrom := none, runStart := none, startLog := [],
    runSeconds := 0 }

/-- The pump group after master reset (R126). -/
def resetGroup : PumpGroup :=
  { config := { sump := 0, dryBand := none, stagger := 10 }, lastStart := 0, reason := .none, waiting := false,
    demand := 0 }

/-- Gate n after master reset (7.1, R143). -/
def resetGate (n : Fin 2) : Gate :=
  { config :=
      { present := false, openLimit := if n = 0 then 8 else 10, closedLimit := if n = 0 then 9 else 11,
        obstruction := none, travel := 60, lead := 30, degraded := 60, warning := 0, reverse := 3,
        retryLimit := 2, tracker := 1, band := 0 },
    state := .absent, detail := none, demand := .none, leadFrom := none, leadInForce := none, travelFrom := none,
    reverseFrom := none, retry := 0, held := false }

/-- A lamp channel after master reset (8.1, R154). -/
def resetLamp : Lamp :=
  { config :=
      { role := .general, zone := 0, fullLoad := 0, rampRate := 255, floor := 0, current := none,
        fullCurrent := 0, tolerance := 0 },
    target := 0, output := 0, forcing := 0, limited := false, lastChange := 0, fault := false, verdict := .none,
    count := 0, measured := none, expected := none }

/-- An event record with nothing pending (R168). -/
def emptyEvent : EventRecord := { pending := false, detail := [], count := 0 }

/-- The Event Set after either reset (R168). -/
def resetEvents : EventSet := { records := Vector.replicate 22 emptyEvent, sequence := 0 }

/-- The Beacon Generator after either reset (R168). -/
def resetBeacon : Beacon := { counter := 0, due := false, sequence := 0 }

/-- The block right after a master reset that finds these straps and these levels of the digital inputs, in a part
with this Factory Store (R17, R24, R51, R79, R103, R126, R143, R154, R162, R168). The arbiter and the queue are
the model's own and are given. -/
def resetState (straps : Byte) (levels : Word) (factory : FactoryStore) (arbiter : Nat)
    (pending : List Instr) : State :=
  { time := { now := 0, seconds := 0, msToSecond := 0, msToRamp := 0 },
    loop :=
      { state := .lost, timerFrom := none, lastGood := none, lostAt := 0, damaged := 0, discarded := 0,
        straps := straps, tailBase := straps ++ (0 : Byte), reception := none, departing := none },
    tags := Vector.ofFn (resetTag straps),
    slots := Vector.replicate 8 emptySlot,
    unit := { queueFullSeen := false, refusalSeen := false },
    replies := { reserved := [], completed := [] },
    converter := { inFlight := none, scanList := [], position := 0, restart := false, slot := .empty },
    gain := factory.gain,
    factory := factory,
    analog := Vector.replicate 16 resetAnalog,
    digital := Vector.ofFn (resetDigital levels),
    trackers := Vector.replicate 4 resetTracker,
    plan := 0,
    actions := Vector.replicate 64 resetAction,
    demands := resetDemands,
    pumps := Vector.ofFn resetPump,
    group := resetGroup,
    gates := Vector.ofFn resetGate,
    lamps := Vector.replicate 8 resetLamp,
    scenes := Vector.replicate 16 (Vector.replicate 8 0),
    allocator :=
      { budget := { mains := 65535, standby := 65535, supply := none, release := 60, isolation := none },
        mode := .mains, stage := 0, releaseFrom := none, writtenAt := none },
    report := { period := 0, timeout := 200, enables := 0x2FFFFF#22 },
    events := resetEvents,
    beacon := resetBeacon,
    arbiter := arbiter,
    pending := pending }

/-- The block right after reset: the master reset of R17 in the part and with the pins that Config names where the
manual gives no value (log entry 7), nothing waiting in the queue. -/
def State.reset : State :=
  resetState Config.resetStraps Config.resetLevels
    { gain := Config.factoryGain, revision := Config.revisionCode } 0 []

end Sys2Proof.Machine
end

