-- ==== Sys2Proof/Machine/Bits.lean ====
section
/-! DEFINITION. Bit fields, clamps and the word encodings common to every record (2.7, R3, R25). -/

namespace Sys2Proof.Machine

/-- A number as one word. -/
def word (n : Nat) : Word := BitVec.ofNat 16 n

/-- A signed number as one word in two's complement (00 "Wire format"). -/
def signedWord (i : Int) : Word := BitVec.ofInt 16 i

/-- A yes or no as one word: 1 or 0. -/
def flagWord (b : Bool) : Word := if b then 1 else 0

/-- A band as one word: 0 to 8, and U as 0x00FF (R25). -/
def bandWord : Band → Word
  | none => 0x00FF
  | some b => word b

/-- An optional number as one word: NONE or absent is 0xFFFF (R25, R165). -/
def optWord : Option Nat → Word
  | none => 0xFFFF
  | some n => word n

/-- A count that saturates at 65535. -/
def sat16 (n : Nat) : Nat := min n 65535

/-- The number clamped to the range lo to hi (00 "Quantities"). -/
def clamp (lo hi n : Nat) : Nat := max lo (min n hi)

/-- Two bytes as one word, the first the higher (2.7). -/
def bytesWord (high low : Byte) : Word := high ++ low

/-- The high byte of a word. -/
def highByte (w : Word) : Byte := w.extractLsb' 8 8

/-- The low byte of a word. -/
def lowByte (w : Word) : Byte := w.extractLsb' 0 8

/-- A 32-bit field as two words, high word first (00 "Wire format"). -/
def words32 (v : BitVec 32) : List Word := [v.extractLsb' 16 16, v.extractLsb' 0 16]

/-- The set of the members for which the predicate holds, as one word (00 "Wire format"). -/
def setWord (n : Nat) (p : Nat → Bool) : Word :=
  (List.range n).foldl (fun w i => if p i then w ||| (1 <<< i) else w) 0

/-! ## Cell headers and frame headers (2.7) -/

/-- Word A of a cell this block composes: its kind and length, every other bit clear (R33). -/
def composeA (kind length : Nat) : Word := word (kind <<< 13 ||| length <<< 8)

/-- The kind field of word A. -/
def cellKind (a : Word) : Nat := (a.extractLsb' 13 3).toNat

/-- The cell length field of word A. -/
def cellLength (a : Word) : Nat := (a.extractLsb' 8 5).toNat

/-- The maintenance flag of word A. -/
def cellMaintenance (a : Word) : Bool := a.getLsbD 7

/-- Word A with its not-taken flag set (R18). -/
def setNotTaken (a : Word) : Word := a ||| 0x0040

/-- The kinds of cell by number (1.1). -/
def kindVoid : Nat := 0
/-- COMMAND is kind 1 (1.1). -/
def kindCommand : Nat := 1
/-- REPLY is kind 2 (1.1). -/
def kindReply : Nat := 2
/-- SAMPLE is kind 3 (1.1). -/
def kindSample : Nat := 3
/-- EVENT is kind 4 (1.1). -/
def kindEvent : Nat := 4

/-- The damaged flag of a frame header. -/
def headerDamaged (h : Word) : Bool := h.getLsbD 15

/-- The body length of a frame header. -/
def headerLength (h : Word) : Nat := (h.extractLsb' 0 7).toNat

/-- A departing header: the reserved bits as received, the damaged flag and the body length as given (R16, R33). -/
def composeHeader (received : Word) (damaged : Bool) (length : Nat) : Word :=
  (received &&& 0x7F80) ||| (if damaged then 0x8000 else 0) ||| (word length &&& 0x007F)

/-! ## The check word (R3) -/

/-- One bit into the check register: x^16 + x^12 + x^5 + 1, most significant bit first. -/
def checkBit (reg : Word) (bit : Bool) : Word :=
  if reg.getLsbD 15 != bit then (reg <<< 1) ^^^ 0x1021 else reg <<< 1

/-- One word into the check register, bit 15 first. -/
def checkShift (reg : Word) (w : Word) : Word :=
  (List.range 16).foldl (fun r i => checkBit r (w.getLsbD (15 - i))) reg

/-- The check word over a header and body: the register starts at all ones (R3). -/
def checkWord (words : List Word) : Word := words.foldl checkShift 0xFFFF

/-! ## An order out of several (log entry 6) -/

/-- The list with x put in at a place. -/
def insertAt {α : Type} : List α → Nat → α → List α
  | [], _, x => [x]
  | ys, 0, x => x :: ys
  | y :: ys, n + 1, x => y :: insertAt ys n x

/-- The k-th order of a list: each order of its members is some k's. -/
def permute {α : Type} : List α → Nat → List α
  | [], _ => []
  | x :: xs, k => insertAt (permute xs (k / (xs.length + 1))) (k % (xs.length + 1)) x

/-- The member with the least key, ties to the earlier one. -/
def least {α : Type} (key : α → Nat) : List α → Option α
  | [] => none
  | p :: ps =>
    match least key ps with
    | none => some p
    | some q => if key q < key p then some q else some p

/-- The member with the greatest key, ties to the earlier one. -/
def most {α : Type} (key : α → Nat) : List α → Option α
  | [] => none
  | p :: ps =>
    match most key ps with
    | none => some p
    | some q => if key p < key q then some q else some p

end Sys2Proof.Machine
end

