-- ==== Sys2Proof/Machine/Ops.lean ====
section
/-! DEFINITION. The named reads and updates of State that the blocks share: one member of a table replaced, the
filtered state of a named input, a source's last sample, the effective demands, the pumps' and lamps' loads. -/

namespace Sys2Proof.Machine

/-- The outcome type of every meaning. -/
abbrev Result := Host.Outcome State Fault Refusal

/-! ## One member of a table replaced -/

/-- Tag Table entry i replaced. -/
def State.putTag (s : State) (i : Fin 16) (x : TagEntry) : State := { s with tags := s.tags.set i x }
/-- Remote Sample Slot j replaced. -/
def State.putSlot (s : State) (j : Fin 8) (x : Slot) : State := { s with slots := s.slots.set j x }
/-- Analog input i replaced. -/
def State.putAnalog (s : State) (i : Fin 16) (x : Analog) : State := { s with analog := s.analog.set i x }
/-- Digital input i replaced. -/
def State.putDigital (s : State) (i : Fin 16) (x : Digital) : State := { s with digital := s.digital.set i x }
/-- Tracker t replaced. -/
def State.putTracker (s : State) (t : Fin 4) (x : Tracker) : State := { s with trackers := s.trackers.set t x }
/-- Action entry e replaced. -/
def State.putAction (s : State) (e : Fin 64) (x : ActionEntry) : State := { s with actions := s.actions.set e x }
/-- Pump p replaced. -/
def State.putPump (s : State) (p : Fin 4) (x : Pump) : State := { s with pumps := s.pumps.set p x }
/-- Gate g replaced. -/
def State.putGate (s : State) (g : Fin 2) (x : Gate) : State := { s with gates := s.gates.set g x }
/-- Lamp channel c replaced. -/
def State.putLamp (s : State) (c : Fin 8) (x : Lamp) : State := { s with lamps := s.lamps.set c x }
/-- Scene n replaced. -/
def State.putScene (s : State) (n : Fin 16) (x : Vector Nat 8) : State := { s with scenes := s.scenes.set n x }
/-- Event record n replaced. -/
def State.putEvent (s : State) (n : Fin 22) (x : EventRecord) : State :=
  { s with events := { s.events with records := s.events.records.set n x } }

/-- Every lamp channel changed by the function, which sees its number. -/
def State.mapLamps (s : State) (f : Fin 8 → Lamp → Lamp) : State :=
  { s with lamps := Vector.ofFn fun c => f c s.lamps[c] }

/-- Every pump changed by the function. -/
def State.mapPumps (s : State) (f : Pump → Pump) : State :=
  { s with pumps := Vector.ofFn fun p => f s.pumps[p] }

/-! ## Time -/

/-- The time base reading in ms. -/
def State.now (s : State) : Nat := s.time.now

/-- Whether a timer that started at this moment has run for so many ms. -/
def elapsed (now : Nat) (start : Option Nat) (ms : Nat) : Bool :=
  match start with
  | none => false
  | some t => decide (t + ms ≤ now)

/-- The ms on a timer, saturating at 65535; 0 when it is stopped. -/
def timerMs (now : Nat) (start : Option Nat) : Nat :=
  match start with
  | none => 0
  | some t => sat16 (now - t)

/-! ## The station base -/

/-- The station base: entry 0's base with its low byte set to 0, whether entry 0 is valid or not (R12). -/
def State.stationBase (s : State) : Word := s.tags[(0 : Fin 16)].base &&& 0xFF00

/-! ## Digital inputs -/

/-- The filtered state of a digital input (3.6). -/
def State.filtered (s : State) (i : Fin 16) : Bool := s.digital[i].filtered

/-- The filtered state of an input that may be NONE: NONE is never active. -/
def State.inputActive (s : State) (i : Option (Fin 16)) : Bool :=
  match i with
  | none => false
  | some i => s.filtered i

/-- The maintenance key is the filtered state of input 15 (R49). -/
def State.maintenanceKey (s : State) : Bool := s.filtered 15

/-- The filtered states of all sixteen inputs as one word (R48). -/
def State.filteredWord (s : State) : Word := setWord 16 fun n => s.digital.toList[n]?.any (·.filtered)

/-- The changed set as one word (R48). -/
def State.changedWord (s : State) : Word := setWord 16 fun n => s.digital.toList[n]?.any (·.changed)

/-! ## Sources of a tracker (R52) -/

/-- The last sample of a source, with the time it arrived. -/
structure SourceSample where
  value : Nat
  quality : Quality
  arrival : Nat
deriving DecidableEq, Repr

/-- The last sample of a source: an analog input that has been converted, or a filled slot. -/
def State.lastSample (s : State) : Option Source → Option SourceSample
  | none => none
  | some (.analog i) =>
    match s.analog[i].time with
    | none => none
    | some t => some { value := s.analog[i].value, quality := s.analog[i].quality, arrival := t }
  | some (.slot j) =>
    if s.slots[j].filled then
      some { value := s.slots[j].value, quality := s.slots[j].quality, arrival := s.slots[j].arrival }
    else none

/-- What a tracker can read of its sources: the time, and the last samples of the primary and the secondary. -/
structure Sources where
  now : Nat
  primary : Option SourceSample
  secondary : Option SourceSample
deriving DecidableEq, Repr

/-- The sources of tracker t, as its TRACKER record names them. -/
def State.sourcesOf (s : State) (t : Fin 4) : Sources :=
  { now := s.now, primary := s.lastSample s.trackers[t].config.primary,
    secondary := s.lastSample s.trackers[t].config.secondary }

/-- Whether a source is valid: its last sample is GOOD and arrived no longer ago than the sample timeout (R52). -/
def validSample (now timeout : Nat) : Option SourceSample → Bool
  | none => false
  | some x => decide (x.quality = .good) && decide (now ≤ x.arrival + timeout)

/-! ## Demands (R94) -/

/-- The effective pump demand: the greater of the two parts. -/
def effectivePumps (r : DemandRecord Nat) : Nat :=
  match r.supervisory with
  | none => r.automatic
  | some v => max r.automatic v.value

/-- The effective gate demand: CLOSE if either part is CLOSE, otherwise OPEN if either is OPEN, otherwise NONE. -/
def effectiveGate (r : DemandRecord GateDemand) : GateDemand :=
  let other : GateDemand := match r.supervisory with
    | none => GateDemand.none
    | some v => v.value
  if r.automatic = .close ∨ other = .close then .close
  else if r.automatic = .open ∨ other = .open then .open
  else .none

/-- The effective scene of a zone: the supervisory value while it is present. -/
def effectiveScene (r : DemandRecord (Fin 16)) : Fin 16 :=
  match r.supervisory with
  | none => r.automatic
  | some v => v.value

/-! ## Load (R157) -/

/-- The load counted for a pump. -/
def pumpLoad (p : Pump) : Nat :=
  match p.state with
  | .starting => p.config.start
  | .running | .runOn => p.config.rated
  | .disabled | .idle | .locked => 0

/-- The load of a GENERAL channel at an output: ceil(full load × output / 255). -/
def lampLoad (l : Lamp) (output : Nat) : Nat := (l.config.fullLoad * output + 254) / 255

/-- What a channel adds to the reserve: its full load in the WARN role. -/
def reserveLoad (l : LampConfig) : Nat :=
  match l.role with
  | .warn => l.fullLoad
  | .general => 0

/-- What a channel adds to general lighting. -/
def generalLoad (l : Lamp) : Nat :=
  match l.config.role with
  | .warn => 0
  | .general => lampLoad l l.output

/-- The pump part of committed load. -/
def State.pumpPart (s : State) : Nat := (s.pumps.toList.map pumpLoad).sum
/-- The reserve part of committed load. -/
def State.reservePart (s : State) : Nat := (s.lamps.toList.map fun l => reserveLoad l.config).sum
/-- The general lighting part of committed load. -/
def State.generalPart (s : State) : Nat := (s.lamps.toList.map generalLoad).sum

/-- Committed load is the sum of three parts (R157). -/
def State.committed (s : State) : Nat := s.pumpPart + s.reservePart + s.generalPart

/-- The active budget is the one of the supply now in use (R156). -/
def State.activeBudget (s : State) : Nat :=
  match s.allocator.mode with
  | .mains => s.allocator.budget.mains
  | .standby => s.allocator.budget.standby

/-! ## Bands and tracker conditions -/

/-- The reopen condition of a gate: its reopen tracker is in TRACKING with a numbered effective band at or below
the reopen band (R131). -/
def State.reopenHolds (s : State) (g : Fin 2) : Bool :=
  let c := s.gates[g].config
  let t := s.trackers[c.tracker]
  match t.effective with
  | none => false
  | some b => decide (t.state = .tracking) && decide (b ≤ c.band)

/-- Dry protection is in force: a dry band is named, the sump tracker is out of FREERUN, and its level band is at
or below the dry band (R114). -/
def State.dryInForce (s : State) : Bool :=
  let t := s.trackers[s.group.config.sump]
  match s.group.config.dryBand, t.band with
  | some d, some b => decide (t.state ≠ .freerun) && decide (b ≤ d)
  | _, _ => false

/-! ## All members in number order -/

/-- The four trackers, pumps or zones in number order. -/
def four : List (Fin 4) := [0, 1, 2, 3]
/-- The two gates in number order. -/
def two : List (Fin 2) := [0, 1]
/-- The eight lamp channels in number order. -/
def eight : List (Fin 8) := [0, 1, 2, 3, 4, 5, 6, 7]

/-! ## What is not due (log entry 2) -/

/-- An event of the table that takes place only when its condition holds; when it does not, nothing has come
about and the state is unchanged (log entry 2). -/
def whenDue (due : Bool) (f : State → State) (s : State) : State := if due then f s else s

end Sys2Proof.Machine
end

