-- ==== Sys2Proof/Machine/Flags.lean ====
section
/-! DEFINITION. The pending flags of the Event Set: the sources by number (R165), raising an event (R164), and the
state words that events and STATUS records carry. -/

namespace Sys2Proof.Machine

/-! ## The 22 sources (R165) -/

/-- GATE0 and GATE1. -/
def gateSource (g : Fin 2) : Fin 22 := ⟨g.val, by omega⟩
/-- PUMP0 to PUMP3. -/
def pumpSource (p : Fin 4) : Fin 22 := ⟨2 + p.val, by omega⟩
/-- UNMET. -/
def unmetSource : Fin 22 := 6
/-- SHED. -/
def shedSource : Fin 22 := 7
/-- SUPPLY. -/
def supplySource : Fin 22 := 8
/-- TRK0 to TRK3. -/
def trackerSource (t : Fin 4) : Fin 22 := ⟨9 + t.val, by omega⟩
/-- BAND0 to BAND3. -/
def bandSource (t : Fin 4) : Fin 22 := ⟨13 + t.val, by omega⟩
/-- PLAN. -/
def planSource : Fin 22 := 17
/-- LAMP. -/
def lampSource : Fin 22 := 18
/-- ACTION. -/
def actionSource : Fin 22 := 19
/-- INPUT. -/
def inputSource : Fin 22 := 20
/-- LOOP. -/
def loopSource : Fin 22 := 21

/-! ## Codes of the STATUS records and event details -/

/-- 0 FREERUN, 1 ACQUIRE, 2 TRACKING, 3 HOLDOVER, 4 FORCED (R78). -/
def trackerStateCode : TrackerState → Word
  | .freerun => 0 | .acquire => 1 | .tracking => 2 | .holdover => 3 | .forced => 4

/-- 0 FAST, 1 SETTLE; 0xFFFF outside ACQUIRE (R78). -/
def phaseCode (t : Tracker) : Word :=
  if t.state = .acquire then (match t.phase with | .fast => 0 | .settle => 1) else 0xFFFF

/-- 0 PRIMARY, 1 SECONDARY, 0xFFFF NONE (R78). -/
def activeCode : Active → Word
  | .primary => 0 | .secondary => 1 | .none => 0xFFFF

/-- 0 DISABLED, 1 IDLE, 2 STARTING, 3 RUNNING, 4 RUN_ON, 5 LOCKED (R124). -/
def pumpStateCode : PumpState → Word
  | .disabled => 0 | .idle => 1 | .starting => 2 | .running => 3 | .runOn => 4 | .locked => 5

/-- The causes of R113. -/
def pumpCauseCode : PumpCause → Word
  | .demand => 0 | .feedback => 1 | .runOnEnd => 2 | .failToStart => 3 | .runLost => 4 | .tripped => 5
  | .dryStop => 6 | .loadStop => 7 | .cleared => 8 | .config => 9

/-- 0 NONE, 1 NO_PUMP, 2 STARTS, 3 LOAD, 4 DRY, 5 MASKED (R125). -/
def unmetCode : Unmet → Word
  | .none => 0 | .noPump => 1 | .starts => 2 | .load => 3 | .dry => 4 | .masked => 5

/-- The gate states of R142. -/
def gateStateCode : GateState → Word
  | .absent => 0 | .opened => 1 | .warning => 2 | .closing => 3 | .closed => 4 | .opening => 5
  | .reversing => 6 | .stopped => 7 | .fault => 8

/-- The details of R141. -/
def gateDetailCode : GateDetail → Word
  | .demand => 0 | .leadEnd => 1 | .limit => 2 | .obstruction => 3 | .retry => 4 | .obstructed => 5
  | .travel => 6 | .limits => 7 | .stop => 8 | .cleared => 9 | .config => 10 | .drift => 11 | .reopen => 12

/-- 0 NONE, 1 OPEN, 2 CLOSE (R102). -/
def gateDemandCode : GateDemand → Word
  | .none => 0 | .open => 1 | .close => 2

/-- 0 MAINS, 1 STANDBY (R162). -/
def modeCode : SupplyMode → Word
  | .mains => 0 | .standby => 1

/-- 0 GOOD, 1 INVALID (R38, R45). -/
def qualityCode : Quality → Word
  | .good => 0 | .invalid => 1

/-! ## Raising an event (R164) -/

/-- Whether a source is enabled in the REPORT record (R163). -/
def State.enabled (s : State) (n : Fin 22) : Bool := s.report.enables.getLsbD n

/-- An event raised on a source with this detail (R164). -/
def raise (n : Fin 22) (detail : List Word) (s : State) : State :=
  if s.enabled n then
    let r := s.events.records[n]
    s.putEvent n
      { pending := true, detail := detail, count := if r.pending then min (r.count + 1) 255 else 1 }
  else s

/-- The pending flag, detail and occurrence count of a source cleared (R163, R166). -/
def clearEvent (n : Fin 22) (s : State) : State := s.putEvent n emptyEvent

/-- The changed set of the digital inputs emptied (R48). -/
def emptyChangedSet (s : State) : State :=
  { s with digital := Vector.ofFn fun i => { s.digital[i] with changed := false } }

end Sys2Proof.Machine
end

