-- ==== Sys2Proof/Machine/Lamps.lean ====
section
/-! DEFINITION. The Lamp Controller's own operations (chapter 8): targets, forcing by gates, outputs. -/

namespace Sys2Proof.Machine

/-- The cap of a shed stage on a channel: 255 at stage 0, its shed floor at stage 1, 0 at stage 2 (R147). -/
def stageCap (stage : Nat) (l : LampConfig) : Nat :=
  if stage = 0 then 255 else if stage = 1 then l.floor else 0

/-- The level of channel c in the effective scene of the zone its record names (R147). -/
def State.sceneLevel (s : State) (c : Fin 8) (l : LampConfig) : Nat :=
  s.scenes[effectiveScene s.demands.zones[l.zone]][c]

/-- The target of a channel: for GENERAL the lesser of its scene level and the cap (R147), for WARN 255 while its
forcing set is not empty (R148). -/
def State.targetOf (s : State) (c : Fin 8) (l : Lamp) : Nat :=
  match l.config.role with
  | .general => min (s.sceneLevel c l.config) (stageCap s.allocator.stage l.config)
  | .warn => if l.forcing = 0 then 0 else 255

/-- The output of a channel moved, with the time of last output change when it changes (8.3, R148). -/
def moveOutput (now : Nat) (output : Nat) (l : Lamp) : Lamp :=
  if output = l.output then l else { l with output := output, lastChange := now }

/-- The targets of the GENERAL channels that satisfy the test recomputed (R147). -/
def retargetWhere (test : LampConfig → Bool) (s : State) : State :=
  s.mapLamps fun c l =>
    if l.config.role = .general ∧ test l.config = true then { l with target := s.targetOf c l } else l

/-- A zone notice: the targets of that zone's GENERAL channels recomputed (R147). -/
def zoneNotice (z : Fin 4) (s : State) : State := retargetWhere (fun l => decide (l.zone = z)) s

/-- A forcing set with gate g in it or out of it. -/
def withGate (forcing : BitVec 2) (g : Fin 2) (forces : Bool) : BitVec 2 :=
  let bit : BitVec 2 := 1#2 <<< g.val
  if forces then forcing ||| bit else forcing &&& ~~~bit

/-- A gate tells which channels it now forces: the forcing sets follow, and each WARN channel's output takes its
new target in the same event (R148). -/
def forceLamps (g : Fin 2) (forces : Bool) (channels : Byte) (s : State) : State :=
  s.mapLamps fun c l =>
    let forced := { l with forcing := withGate l.forcing g (forces && channels.getLsbD c) }
    match l.config.role with
    | .general => forced
    | .warn =>
      let target := if forced.forcing = 0 then 0 else 255
      moveOutput s.now target { forced with target := target }

/-- The shed stage as the Load Allocator tells it: targets recomputed under the new cap, and, when the stage has
risen, each GENERAL output above its cap cut to it at once, its LIMITED mark cleared (R150). -/
def setStage (stage : Nat) (s : State) : State :=
  let told := { s with allocator := { s.allocator with stage := stage } }
  told.mapLamps fun c l =>
    match l.config.role with
    | .warn => l
    | .general =>
      let retargeted := { l with target := told.targetOf c l }
      let cap := stageCap stage l.config
      if s.allocator.stage < stage ∧ cap < l.output then
        moveOutput s.now cap { retargeted with limited := false }
      else retargeted

/-- The lamp fault set: the channels in FAULT, as one word (R152). -/
def State.lampFaultWord (s : State) : Word := setWord 8 fun n => s.lamps.toList[n]?.any (·.fault)

end Sys2Proof.Machine
end

