-- ==== Sys2Proof/Machine/Allocation.lean ====
section
/-! DEFINITION. The Load Allocator (chapter 9): grants, stage raises, the release timer. -/

namespace Sys2Proof.Machine

/-- What committed load would be with the general lighting cut to a stage's cap: each GENERAL channel counted at
the lesser of its output and the cap (R158). -/
def State.committedAt (s : State) (stage : Nat) : Nat :=
  s.pumpPart + s.reservePart +
    (s.lamps.toList.map fun l =>
      match l.config.role with
      | .warn => 0
      | .general => lampLoad l (min l.output (stageCap stage l.config))).sum

/-- The release timer restarted from 0 if the start-waiting-for-load mark is clear, else stopped (R160, R161). -/
def restartRelease (s : State) : State :=
  { s with allocator := { s.allocator with releaseFrom := if s.group.waiting then none else some s.now } }

/-- The shed stage raised, the outputs cut and the release timer restarted (R158, R160). -/
def raiseStage (stage : Nat) (s : State) : State := restartRelease (setStage stage s)

/-- The answer to a request for a pump's start load: `none` refuses and leaves everything as it was; a grant may
have raised the shed stage (R158). -/
def grantStart (load : Nat) (s : State) : Option State :=
  if s.committed + load ≤ s.activeBudget then some s
  else if s.allocator.stage < 1 ∧ s.committedAt 1 + load ≤ s.activeBudget then some (raiseStage 1 s)
  else if s.allocator.stage < 2 ∧ s.committedAt 2 + load ≤ s.activeBudget then some (raiseStage 2 s)
  else none

/-- Whether a GENERAL channel's step from its output to another is granted (R159). -/
def grantStep (l : Lamp) (output : Nat) (s : State) : Bool :=
  decide (s.committed - lampLoad l l.output + lampLoad l output ≤ s.activeBudget) && !s.group.waiting

/-- Whether a rise of the reserve from one contribution to another is granted (R144, R159). -/
def grantReserve (before after : Nat) (s : State) : Bool :=
  decide (s.committed - before + after ≤ s.activeBudget)

/-- The causes of a SHED event: 0 START, 1 DEFICIT, 2 RELEASE (R165). -/
inductive ShedCause where
  | start | deficit | release
deriving DecidableEq, Repr

/-- The code of a SHED cause (R165). -/
def shedCauseCode : ShedCause → Word
  | .start => 0 | .deficit => 1 | .release => 2

/-- The SHED event for a change of stage since `before`: new stage, old stage, cause, committed load (R161). -/
def tellShed (before : Nat) (cause : ShedCause) (s : State) : State :=
  if s.allocator.stage = before then s
  else raise shedSource [word s.allocator.stage, word before, shedCauseCode cause, word s.committed] s

/-- The release timer has reached the release time while it runs (R161), at a tick after the last BUDGET write: a timer that
the write found at or beyond the new time expires at the next tick (R155, step 4). -/
def State.releaseDue (s : State) : Bool :=
  decide (0 < s.allocator.stage) && elapsed s.now s.allocator.releaseFrom (s.allocator.budget.release * 1000) &&
    s.allocator.writtenAt.all fun m => decide (m < s.now)

/-- The shed stage lowered by 1; the timer restarts while the stage is still above 0 (R161). -/
def releaseStage (s : State) : State :=
  let lowered := setStage (s.allocator.stage - 1) s
  tellShed s.allocator.stage .release
    { lowered with
      allocator :=
        { lowered.allocator with
          releaseFrom := if lowered.allocator.stage = 0 then none else some s.now } }

/-- RELEASE_TIMER_EXPIRY (R161). -/
def execReleaseTimerExpiry (s : State) : Result := .next (whenDue s.releaseDue releaseStage s)

/-! ## The ramp tick (R149) -/

/-- The GENERAL channels above their targets step down by their ramp rate (R149, step 1). -/
def rampDown (s : State) : State :=
  s.mapLamps fun _ l =>
    if l.config.role = .general ∧ l.target < l.output then
      moveOutput s.now (max l.target (l.output - l.config.rampRate)) { l with limited := false }
    else l

/-- Channel c asks for its up-step, or has its LIMITED mark cleared when it stands at its target
(R149, steps 2 and 3). -/
def rampUp (s : State) (c : Fin 8) : State :=
  let l := s.lamps[c]
  if l.config.role = .general then
    if l.output < l.target then
      let up := min l.target (l.output + l.config.rampRate)
      if grantStep l up s then s.putLamp c (moveOutput s.now up { l with limited := false })
      else s.putLamp c { l with limited := true }
    else if l.output = l.target then s.putLamp c { l with limited := false }
    else s
  else s

/-- A ramp tick: the down-steps first, then the up-steps in channel number order (R149). -/
def rampStep (s : State) : State :=
  let ticked := { s with time := { s.time with msToRamp := s.time.msToRamp - 100 } }
  eight.foldl rampUp (rampDown ticked)

/-- RAMP_TICK: due every 100 ms of the time base (R1, R149). -/
def execRampTick (s : State) : Result := .next (whenDue (decide (100 ≤ s.time.msToRamp)) rampStep s)

end Sys2Proof.Machine
end

