-- ==== Sys2Proof/Machine/Pumps.lean ====
section
/-! DEFINITION. The Pump Group Controller (chapter 6) and the deficit procedure that stops its pumps (R160). -/

namespace Sys2Proof.Machine

/-! ## Changes of a pump's state -/

/-- A pump in a new state: the cause kept, the confirm and run-on timers started or stopped as the state has
them (R108, R111, R113). -/
def Pump.enter (p : Pump) (state : PumpState) (cause : PumpCause) (now : Nat) : Pump :=
  { p with
    state := state
    cause := some cause
    confirmFrom := if state = .starting then some now else none
    runOnFrom := if state = .runOn then some now else none }

/-- A pump's state change, told to the Event Set with the new state, the old state and the cause (R113). The
Load Allocator counts the pump by its state from then on (R157). -/
def changePump (p : Fin 4) (state : PumpState) (cause : PumpCause) (s : State) : State :=
  raise (pumpSource p) [pumpStateCode state, pumpStateCode s.pumps[p].state, pumpCauseCode cause]
    (s.putPump p (s.pumps[p].enter state cause s.now))

/-- A pump in STARTING or RUNNING is active (R115). -/
def Pump.isActive (p : Pump) : Bool := decide (p.state = .starting ∨ p.state = .running)

/-- A pump whose run output is on: STARTING, RUNNING or RUN_ON (R107). -/
def Pump.runOutput (p : Pump) : Bool :=
  decide (p.state = .starting ∨ p.state = .running ∨ p.state = .runOn)

/-- The pumps that satisfy a test, in number order. -/
def State.pumpsWhere (s : State) (test : Pump → Bool) : List (Fin 4) := four.filter fun p => test s.pumps[p]

/-- The active count, 0 to 4 (R115). -/
def State.activeCount (s : State) : Nat := (s.pumpsWhere Pump.isActive).length

/-- A pump's run seconds, by which the group orders its pumps (R116, R117, R120, R160). -/
def State.runKey (s : State) (p : Fin 4) : Nat := s.pumps[p].runSeconds.toNat

/-! ## Dry protection (R114) -/

/-- A pump that runs goes to IDLE with cause DRY_STOP. -/
def dryStop (s : State) (p : Fin 4) : State :=
  if s.pumps[p].runOutput then changePump p .idle .dryStop s else s

/-- Dry protection evaluated: while it is in force every running pump stops at once. -/
def evaluateDry (s : State) : State := if s.dryInForce then four.foldl dryStop s else s

/-! ## The group decision (R115) -/

/-- RUN_ON pumps with the fewest run seconds reclaimed until the active count reaches the demand (R116). -/
def reclaim : Nat → State → State
  | 0, s => s
  | n + 1, s =>
    if s.activeCount < s.group.demand then
      match least s.runKey (s.pumpsWhere fun p => decide (p.state = .runOn)) with
      | none => s
      | some p => reclaim n (changePump p .running .demand s)
    else s

/-- Whether a RUNNING pump is eligible to stop: it has met its minimum run (R120). -/
def State.eligible (s : State) (p : Pump) : Bool :=
  decide (p.state = .running) &&
    match p.runStart with
    | none => false
    | some r => decide (p.config.minimumRun ≤ (s.time.seconds - r).toNat)

/-- Eligible RUNNING pumps with the most run seconds stopped until the active count comes down to the demand:
to RUN_ON, or to IDLE when the run-on time is 0 (R120). -/
def stopSurplus : Nat → State → State
  | 0, s => s
  | n + 1, s =>
    if s.group.demand < s.activeCount then
      match most s.runKey (s.pumpsWhere s.eligible) with
      | none => s
      | some p =>
        stopSurplus n (changePump p (if s.pumps[p].config.runOn = 0 then .idle else .runOn) .demand s)
    else s

/-- The chosen pump enters STARTING: the seconds count joins its start log and the group's last start is this
moment (R117, R118, R119). -/
def enterStarting (p : Fin 4) (s : State) : State :=
  let started := changePump p .starting .demand s
  let logged := started.putPump p
    { started.pumps[p] with startLog := started.pumps[p].startLog ++ [s.time.seconds] }
  { logged with group := { logged.group with lastStart := s.now } }

/-- One start considered, with the reason when none is made (R117, R122). The SHED event of a stage raised for
the start is told once the start load has joined the count (R158, R161). -/
def considerStart (s : State) : State × Unmet :=
  let candidates := s.pumpsWhere fun p => decide (p.state = .idle) && !s.filtered p.config.feedback
  let unmasked := candidates.filter fun p => !s.pumps[p].config.planMask.getLsbD s.plan
  let allowed := unmasked.filter fun p =>
    decide (s.pumps[p].startLog.length < s.pumps[p].config.startsPerHour)
  if candidates.isEmpty then (s, .noPump)
  else if unmasked.isEmpty then (s, .masked)
  else if allowed.isEmpty then (s, .starts)
  else if s.now < s.group.lastStart + s.group.config.stagger * 1000 then (s, .none)
  else
    match least s.runKey allowed with
    | none => (s, .starts)
    | some p =>
      match grantStart s.pumps[p].config.start s with
      | none => (s, .load)
      | some granted => (tellShed s.allocator.stage .start (enterStarting p granted), .none)

/-- The unmet reason set, with its event when it differs, and the start-waiting-for-load mark, which stops or
starts the release timer when it changes (R122, R161). -/
def setReason (reason : Unmet) (s : State) : State :=
  let told :=
    if reason = s.group.reason then s
    else raise unmetSource [unmetCode reason, word s.group.demand, word s.activeCount] s
  let waiting := decide (reason = .load)
  let marked := { told with group := { told.group with reason := reason, waiting := waiting } }
  if waiting = s.group.waiting then marked
  else if waiting then { marked with allocator := { marked.allocator with releaseFrom := none } }
  else if 0 < marked.allocator.stage then
    { marked with allocator := { marked.allocator with releaseFrom := some s.now } }
  else marked

/-- The reclaims, starts and stops of a decision, with the unmet reason they leave (R115, R122). -/
def decisionWork (s : State) : State × Unmet :=
  if s.dryInForce then (s, if s.group.demand ≤ s.activeCount then .none else .dry)
  else
    let reclaimed := reclaim 4 s
    if reclaimed.activeCount < reclaimed.group.demand then
      let considered := considerStart reclaimed
      (considered.1,
        if considered.1.group.demand ≤ considered.1.activeCount then .none else considered.2)
    else (stopSurplus 4 reclaimed, .none)

/-- The group decision (R115). -/
def groupDecision (s : State) : State :=
  let decided := decisionWork s
  setReason decided.2 decided.1

/-! ## Notices to the group, each with its decision (R115) -/

/-- A notice of the effective pump demand, of a plan change, or of both told together (R101, log entry 14). -/
def pumpDemandNotice (demand : Nat) (s : State) : State :=
  groupDecision { s with group := { s.group with demand := demand } }

/-- A notice of a change of the sump tracker's state or level band: dry protection first (R114, R115). -/
def sumpNotice (s : State) : State := groupDecision (evaluateDry s)

/-- A change of pump p's run-feedback input (R108, R109). -/
def feedbackChange (p : Fin 4) (s : State) : State :=
  let x := s.pumps[p]
  let active := s.filtered x.config.feedback
  match x.state with
  | .starting =>
    if active then
      changePump p .running .feedback (s.putPump p { x with runStart := some s.time.seconds })
    else s
  | .running | .runOn => if active then s else changePump p .locked .runLost s
  | .disabled | .idle | .locked => s

/-- A change of pump p's fault input (R110). -/
def faultChange (p : Fin 4) (s : State) : State :=
  let x := s.pumps[p]
  match x.state with
  | .idle | .starting | .running | .runOn =>
    if s.inputActive x.config.fault then changePump p .locked .tripped s else s
  | .disabled | .locked => s

/-- A filtered change of input i as pump p takes it, if its record names the input (R108 to R110). -/
def pumpInputChange (i : Fin 16) (s : State) (p : Fin 4) : State :=
  let c := s.pumps[p].config
  if c.feedback = i then feedbackChange p s else if c.fault = some i then faultChange p s else s

/-- A filtered change of input i told to the group once: every pump that names it changes at that moment, and one group
decision ends the event (R46, R110, R115). -/
def pumpInputNotice (i : Fin 16) (s : State) : State := groupDecision (four.foldl (pumpInputChange i) s)

/-! ## The deficit procedure (R160) -/

/-- Running pumps with the most run seconds ordered stopped until the load fits (R121, R160). -/
def stopForLoad : Nat → State → State
  | 0, s => s
  | n + 1, s =>
    if s.activeBudget < s.committed then
      match most s.runKey (s.pumpsWhere Pump.runOutput) with
      | none => s
      | some p => stopForLoad n (changePump p .idle .loadStop s)
    else s

/-- The deficit procedure: stage 1, stage 2, then pumps, stopping as soon as the load fits; the SHED event at its
end (R160, R161). -/
def deficit (s : State) : State :=
  if s.activeBudget < s.committed then
    let first := if s.allocator.stage = 0 then setStage 1 s else s
    let second :=
      if first.activeBudget < first.committed ∧ first.allocator.stage = 1 then setStage 2 first else first
    tellShed s.allocator.stage .deficit (restartRelease (stopForLoad 4 second))
  else s

/-- Whether a change of the pumps' states stopped one of them. -/
def stoppedOne (before after : State) : Bool :=
  four.any fun p => before.pumps[p].runOutput && !after.pumps[p].runOutput

/-- The supply mode as the named input has it (R156). -/
def State.supplyMode (s : State) : SupplyMode :=
  if s.inputActive s.allocator.budget.supply then .standby else .mains

/-- The supply mode taken afresh from the supply input (R155, R156). -/
def takeMode (s : State) : State := { s with allocator := { s.allocator with mode := s.supplyMode } }

/-- The SUPPLY event, if the mode is not the one held before: new mode, old mode, active budget, committed load, shed
stage (R156). -/
def tellSupply (before : SupplyMode) (s : State) : State :=
  if s.allocator.mode = before then s
  else raise supplySource
    [modeCode s.allocator.mode, modeCode before, word s.activeBudget, word s.committed, word s.allocator.stage] s

/-- The supply mode taken afresh, the deficit procedure if committed load exceeds the active budget, the SUPPLY
event if the mode differs, and the group decision if a pump was stopped (R155, R156, R160, R115; log entry 19). -/
def retakeSupply (s : State) : State :=
  let fitted := deficit (takeMode s)
  let told := tellSupply s.allocator.mode fitted
  if stoppedOne (takeMode s) fitted then groupDecision told else told

/-- A filtered change of the supply input told to the allocator; a change that leaves the mode as it was raises
nothing (R156). -/
def supplyNotice (s : State) : State := if s.supplyMode = s.allocator.mode then s else retakeSupply s

/-! ## The pumps' timers and per-second work -/

/-- CONFIRM_EXPIRY: a STARTING pump whose confirm timer has reached the confirm time is LOCKED (R108). -/
def execConfirmExpiry (p : Fin 4) (s : State) : Result :=
  let x := s.pumps[p]
  .next (whenDue (decide (x.state = .starting) && elapsed s.now x.confirmFrom (x.config.confirm * 1000))
    (fun s => groupDecision (changePump p .locked .failToStart s)) s)

/-- RUN_ON_END: a pump whose run-on timer has reached the run-on time goes to IDLE (R111). -/
def execRunOnEnd (p : Fin 4) (s : State) : Result :=
  let x := s.pumps[p]
  .next (whenDue (decide (x.state = .runOn) && elapsed s.now x.runOnFrom (x.config.runOn * 1000))
    (fun s => groupDecision (changePump p .idle .runOnEnd s)) s)

/-- A pump's log without the entries that the seconds count exceeds by more than 3600 (R119). -/
def trimLog (seconds : BitVec 32) (p : Pump) : Pump :=
  { p with startLog := p.startLog.filter fun e => decide ((seconds - e).toNat ≤ 3600) }

/-- A run second gained by a pump in RUNNING or RUN_ON, saturating (R123). -/
def gainRunSecond (p : Pump) : Pump :=
  if (p.state = .running ∨ p.state = .runOn) ∧ p.runSeconds.toNat < 4294967295 then
    { p with runSeconds := p.runSeconds + 1 }
  else p

/-- The group's work at a second tick: run seconds and start logs, then the decision (R115, R119, R123). -/
def pumpTick (s : State) : State :=
  groupDecision (s.mapPumps fun p => trimLog s.time.seconds (gainRunSecond p))

/-- START_LOG_EXPIRY: at a second tick that is due, the entries of one log that the tick makes older than 3600 s
are removed (R119). The decision of that tick follows in SECOND_TICK (log entry 10). -/
def execStartLogExpiry (p : Fin 4) (s : State) : Result :=
  .next (whenDue (decide (1000 ≤ s.time.msToSecond))
    (fun s => s.putPump p (trimLog (s.time.seconds + 1) s.pumps[p])) s)

end Sys2Proof.Machine
end

