-- ==== Sys2Proof/Machine/Gates.lean ====
section
/-! DEFINITION. The Gate Controllers (chapter 7) and the lamp current check that tells them (8.5). -/

namespace Sys2Proof.Machine

/-! ## States and drives (7.2) -/

/-- A gate forces its warning channels in every state other than OPEN and ABSENT (R130). -/
def GateState.forces : GateState → Bool
  | .opened | .absent => false
  | .warning | .closing | .closed | .opening | .reversing | .stopped | .fault => true

/-- The open drive is on in OPENING and REVERSING (R129). -/
def Gate.openDrive (g : Gate) : Bool := decide (g.state = .opening ∨ g.state = .reversing)

/-- The close drive is on in CLOSING (R129). -/
def Gate.closeDrive (g : Gate) : Bool := decide (g.state = .closing)

/-- The lead in force at an entry to WARNING: the degraded lead if a channel of the warning set is in lamp FAULT
(R133). -/
def State.leadAtEntry (s : State) (c : GateConfig) : Nat :=
  if eight.any fun n => c.warning.getLsbD n && s.lamps[n].fault then c.degraded else c.lead

/-- A gate in a new state: its detail kept, the reopen-held mark cleared, and the one timer of the state started
from 0, the others stopped (R131, R133 to R137, R141). -/
def Gate.enter (g : Gate) (state : GateState) (detail : GateDetail) (now lead : Nat) : Gate :=
  { g with
    state := state
    detail := some detail
    leadFrom := if state = .warning then some now else none
    leadInForce := if state = .warning then some lead else none
    travelFrom := if state = .closing ∨ state = .opening then some now else none
    reverseFrom := if state = .reversing then some now else none
    held := false }

/-- A gate's state change: its warning channels forced or released in the same event (R130), and the Event Set
told the new state, the old state, the detail and the retry count after the change (R141). -/
def changeGate (g : Fin 2) (state : GateState) (detail : GateDetail) (s : State) : State :=
  let x := s.gates[g]
  let entered := x.enter state detail s.now (s.leadAtEntry x.config)
  let forced := forceLamps g state.forces x.config.warning (s.putGate g entered)
  raise (gateSource g)
    [gateStateCode state, gateStateCode x.state, gateDetailCode detail, word entered.retry] forced

/-- The retry count of a gate set. -/
def setRetry (g : Fin 2) (retry : Nat) (s : State) : State :=
  s.putGate g { s.gates[g] with retry := retry }

/-- The reopen-held mark of a gate set or cleared (R131). -/
def setHeld (g : Fin 2) (held : Bool) (s : State) : State :=
  s.putGate g { s.gates[g] with held := held }

/-- The filtered state of a gate's open-limit input. -/
def State.atOpen (s : State) (g : Fin 2) : Bool := s.filtered s.gates[g].config.openLimit
/-- The filtered state of a gate's closed-limit input. -/
def State.atClosed (s : State) (g : Fin 2) : Bool := s.filtered s.gates[g].config.closedLimit
/-- The filtered state of a gate's obstruction input; NONE is never active. -/
def State.obstructed (s : State) (g : Fin 2) : Bool := s.inputActive s.gates[g].config.obstruction

/-- The lead timer has reached the lead in force (R134). -/
def State.leadElapsed (s : State) (g : Fin 2) : Bool :=
  match s.gates[g].leadInForce with
  | none => false
  | some lead => elapsed s.now s.gates[g].leadFrom (lead * 1000)

/-! ## Entries that pass straight on (R132, R134 to R137) -/

/-- Entry to OPENING; an open limit already active passes the gate straight on to OPEN, its retry count 0
(R136, R137). The standing condition of OPEN is left to the caller. -/
def passOpening (g : Fin 2) (detail : GateDetail) (s : State) : State :=
  let opening := changeGate g .opening detail s
  if opening.atOpen g then changeGate g .opened .limit (setRetry g 0 opening) else opening

/-- The standing condition of CLOSED (R132): OPEN asked for opens the gate if the reopen condition holds, and
sets the reopen-held mark if it fails; any other demand clears the mark (R131). A gate that opens here was asked
OPEN, so OPEN has nothing to add. -/
def standClosed (g : Fin 2) (detail : GateDetail) (s : State) : State :=
  if s.gates[g].demand = .open then
    if s.reopenHolds g then passOpening g detail s else setHeld g true s
  else setHeld g false s

/-- CLOSING met its closed limit: CLOSED with detail LIMIT and the retry count 0, then the standing condition
(R132, R135). -/
def reachClosed (g : Fin 2) (s : State) : State :=
  standClosed g .demand (changeGate g .closed .limit (setRetry g 0 s))

/-- Entry to CLOSING; a closed limit already active passes the gate straight on to CLOSED (R135). -/
def enterClosing (g : Fin 2) (s : State) : State :=
  let closing := changeGate g .closing .leadEnd s
  if closing.atClosed g then reachClosed g closing else closing

/-- A WARNING gate goes to CLOSING once its lead has elapsed and its obstruction input is NONE or inactive; while
the obstruction is active it holds (R134). -/
def judgeWarning (g : Fin 2) (s : State) : State :=
  if decide (s.gates[g].state = .warning) && s.leadElapsed g && !s.obstructed g then enterClosing g s else s

/-- Entry to WARNING with a fresh lead; a lead in force of 0 may end at the entry (R133, R134; log entry 20). -/
def enterWarning (g : Fin 2) (detail : GateDetail) (s : State) : State :=
  judgeWarning g (changeGate g .warning detail s)

/-- The standing condition of OPEN: CLOSE asked for begins the warning (R132). -/
def standOpen (g : Fin 2) (s : State) : State :=
  if s.gates[g].demand = .close then enterWarning g .demand s else s

/-- Entry to OPENING and, through its open limit, to OPEN with its standing condition (R137). -/
def enterOpening (g : Fin 2) (detail : GateDetail) (s : State) : State :=
  let passed := passOpening g detail s
  if passed.gates[g].state = .opened then standOpen g passed else passed

/-- OPENING met its open limit: OPEN with detail LIMIT and the retry count 0, then the standing condition
(R137). -/
def reachOpen (g : Fin 2) (s : State) : State :=
  standOpen g (changeGate g .opened .limit (setRetry g 0 s))

/-- The standing condition of a resting gate, evaluated with a detail for a reopening (R132). -/
def standing (g : Fin 2) (detail : GateDetail) (s : State) : State :=
  match s.gates[g].state with
  | .opened => standOpen g s
  | .closed => standClosed g detail s
  | .absent | .warning | .closing | .opening | .reversing | .stopped | .fault => s

/-- The end of a reversal: the retry count goes up by 1 and the gate retries with a fresh warning or gives up
(R136). The count stays in 0 to 8 (log entry 15). -/
def endReversal (g : Fin 2) (s : State) : State :=
  let counted := setRetry g (min (s.gates[g].retry + 1) 8) s
  let x := counted.gates[g]
  if x.retry ≤ x.config.retryLimit ∧ x.demand = .close then enterWarning g .retry counted
  else changeGate g .stopped .obstructed counted

/-- Entry to REVERSING, which ends at once when the reverse time is 0 or the open limit is active (R136). -/
def enterReversing (g : Fin 2) (s : State) : State :=
  let reversing := changeGate g .reversing .obstruction s
  if s.gates[g].config.reverse = 0 ∨ reversing.atOpen g = true then endReversal g reversing else reversing

/-- The state that the two limit inputs give (R128). -/
def State.limitState (s : State) (g : Fin 2) : GateState :=
  match s.atOpen g, s.atClosed g with
  | true, false => .opened
  | false, true => .closed
  | false, false => .stopped
  | true, true => .fault

/-! ## What a gate is told -/

/-- A notice from the Demand Set: the effective demand stored, then acted on as the state has it; `fresh` when
the gate received a fresh demand (R132, R134 to R138). -/
def gateDemandNotice (g : Fin 2) (demand : GateDemand) (fresh : Bool) (s : State) : State :=
  let x := s.gates[g]
  let stored := s.putGate g { x with demand := demand, held := x.held && !fresh }
  match x.state with
  | .opened => standOpen g stored
  | .closed => standClosed g .demand stored
  | .warning =>
    if demand = .close then stored
    else if stored.atOpen g then changeGate g .opened .demand stored
    else changeGate g .stopped .demand stored
  | .opening => if demand = .close then enterWarning g .demand stored else stored
  | .stopped =>
    if fresh then
      let reset := setRetry g 0 stored
      match demand with
      | .close => enterWarning g .demand reset
      | .open => if reset.reopenHolds g then enterOpening g .demand reset else setHeld g true reset
      | .none => reset
    else stored
  | .absent | .closing | .reversing | .fault => stored

/-- A notice from the reopen tracker, which a resting gate answers with its standing condition; a gate that opens
now opens with detail REOPEN (R132). -/
def reopenNotice (g : Fin 2) (s : State) : State := standing g .reopen s

/-- A change of the open limit, the closed limit or the obstruction input, as the state of the gate names it
(R132, R134 to R137), when no limit conflict has been found. -/
def gateInputRule (g : Fin 2) (i : Fin 16) (s : State) : State :=
  let x := s.gates[g]
  let isOpen := decide (x.config.openLimit = i)
  let isClosed := decide (x.config.closedLimit = i)
  let isObstruction := decide (x.config.obstruction = some i)
  match x.state with
  | .opened => if isOpen && !s.atOpen g then changeGate g .stopped .drift s else s
  | .closed => if isClosed && !s.atClosed g then changeGate g .stopped .drift s else s
  | .warning => if isObstruction && !s.obstructed g then judgeWarning g s else s
  | .closing =>
    if isClosed && s.atClosed g then reachClosed g s
    else if isObstruction && s.obstructed g then enterReversing g s
    else s
  | .opening => if isOpen && s.atOpen g then reachOpen g s else s
  | .reversing => if isOpen && s.atOpen g then endReversal g s else s
  | .absent | .stopped | .fault => s

/-- A filtered change of input i told to gate g, which names it. In every state but ABSENT and FAULT, both limits
active send the gate to FAULT with detail LIMITS, judged at each change of either limit (R139). -/
def gateInputNotice (g : Fin 2) (i : Fin 16) (s : State) : State :=
  let x := s.gates[g]
  let isLimit := decide (x.config.openLimit = i ∨ x.config.closedLimit = i)
  if x.state = .absent ∨ x.state = .fault then s
  else if isLimit && s.atOpen g && s.atClosed g then changeGate g .fault .limits s
  else gateInputRule g i s

/-- A lamp fault of channel c told to gate g, whose warning set holds it: in WARNING a fault entering sets the
lead in force to the degraded lead time, and a notice that lengthens it judges the warning (R133, R134). -/
def gateLampNotice (g : Fin 2) (entered : Bool) (s : State) : State :=
  let x := s.gates[g]
  if x.state = .warning ∧ entered = true then
    let lengthened := decide (x.leadInForce.getD 0 < x.config.degraded)
    let degraded := s.putGate g { x with leadInForce := some x.config.degraded }
    if lengthened then judgeWarning g degraded else degraded
  else s

/-! ## Gate timers -/

/-- LEAD_EXPIRY: the lead timer has reached the lead in force (R134). -/
def execLeadExpiry (g : Fin 2) (s : State) : Result :=
  .next (whenDue (decide (s.gates[g].state = .warning) && s.leadElapsed g) (judgeWarning g) s)

/-- TRAVEL_TIMEOUT of a CLOSING or OPENING gate: FAULT with detail TRAVEL (R135, R137). -/
def execTravelTimeout (g : Fin 2) (s : State) : Result :=
  let x := s.gates[g]
  .next (whenDue
    (decide (x.state = .closing ∨ x.state = .opening) && elapsed s.now x.travelFrom (x.config.travel * 1000))
    (changeGate g .fault .travel) s)

/-- REVERSE_END: the reverse timer has reached the reverse time (R136). -/
def execReverseEnd (g : Fin 2) (s : State) : Result :=
  let x := s.gates[g]
  .next (whenDue (decide (x.state = .reversing) && elapsed s.now x.reverseFrom (x.config.reverse * 1000))
    (endReversal g) s)

/-! ## Lamp faults (8.5) -/

/-- A change of channel c's lamp fault flag, already stored, told to the gates whose warning sets hold the channel
and to the Event Set with the lamp fault set (R152). -/
def tellLampFault (c : Fin 8) (entered : Bool) (s : State) : State :=
  raise lampSource [s.lampFaultWord]
    (two.foldl (fun s g => if s.gates[g].config.warning.getLsbD c then gateLampNotice g entered s else s) s)

/-- A check run after a judged check of this verdict (R152). -/
def runAfter (l : Lamp) (verdict : Verdict) : Nat := if l.verdict = verdict then min (l.count + 1) 3 else 1

/-- A judged check of channel c: the run, then the lamp fault flag, told when it changes (R152). -/
def judgeCheck (c : Fin 8) (verdict : Verdict) (s : State) : State :=
  let l := s.lamps[c]
  let count := runAfter l verdict
  let fault :=
    if count = 3 ∧ verdict = .fail then true else if count = 3 ∧ verdict = .pass then false else l.fault
  let stored := s.putLamp c { l with verdict := verdict, count := count, fault := fault }
  if fault = l.fault then stored else tellLampFault c fault stored

/-- The current check of channel c at a conversion of its current input: the current is stored, and judged
against floor(full current × output / 255) once the output has stood for 2000 ms (R151). -/
def currentCheck (c : Fin 8) (current : Nat) (s : State) : State :=
  let l := s.lamps[c]
  if l.lastChange + 2000 ≤ s.now then
    let expected := l.config.fullCurrent * l.output / 255
    let passes := decide (current ≤ expected + l.config.tolerance ∧ expected ≤ current + l.config.tolerance)
    judgeCheck c (if passes then .pass else .fail)
      (s.putLamp c { l with measured := some current, expected := some expected })
  else s.putLamp c { l with measured := some current }

/-- CLEAR_FAULT of a lamp channel: flag cleared, check run to no verdict and count 0, told when the flag changes
(R152). The measured and expected currents stay (log entry 30). -/
def clearLampFault (c : Fin 8) (s : State) : State :=
  let l := s.lamps[c]
  let stored := s.putLamp c { l with verdict := .none, count := 0, fault := false }
  if l.fault then tellLampFault c false stored else stored

end Sys2Proof.Machine
end

