-- ==== Sys2Proof/Machine/Demands.lean ====
section
/-! DEFINITION. The Demand Set and the Action Unit (chapter 5): telling the owners, firing on a band change, the
plan-change cascade, the isolation switch. -/

namespace Sys2Proof.Machine

/-! ## Telling the owners (R101) -/

/-- The owners of the seven demand records: the Pump Group Controller, the two gates, and the Lamp Controller for each
zone (5.5, R101). -/
inductive Owner where
  | pumps
  | gate (g : Fin 2)
  | zone (z : Fin 4)
deriving DecidableEq, Repr

/-- The seven owners. -/
def owners : List Owner := .pumps :: two.map .gate ++ four.map .zone

/-- Whether an owner is told at the end of an event: its effective value differs from the one before, or its gate
received a fresh demand, or, for the pumps, P changed (R101; the pumps hear of both at once, log entry 14). -/
def State.tells (s : State) (before : Demands) (fresh : Vector Bool 2) (planChanged : Bool) : Owner → Bool
  | .pumps => planChanged || decide (effectivePumps s.demands.pumps ≠ effectivePumps before.pumps)
  | .gate g => fresh[g] || decide (effectiveGate s.demands.gates[g] ≠ effectiveGate before.gates[g])
  | .zone z => decide (effectiveScene s.demands.zones[z] ≠ effectiveScene before.zones[z])

/-- An owner told its effective value, and a gate whether it received a fresh demand (R101). -/
def tellOwner (fresh : Vector Bool 2) (s : State) : Owner → State
  | .pumps => pumpDemandNotice (effectivePumps s.demands.pumps) s
  | .gate g => gateDemandNotice g (effectiveGate s.demands.gates[g]) fresh[g] s
  | .zone z => zoneNotice z s

/-- No gate received a fresh demand. -/
def noFresh : Vector Bool 2 := Vector.replicate 2 false

/-- At the end of an event each owner that has something to be told is told once; every new value is stored before.
The rules leave open which owner hears first. DESIGN CHOICE: two or more are told in a free order, which uses up one free
value (R101; log entry 6). -/
def tellOwners (before : Demands) (fresh : Vector Bool 2) (planChanged : Bool) (s : State) : State :=
  match owners.filter (s.tells before fresh planChanged) with
  | [] => s
  | [o] => tellOwner fresh s o
  | os => (permute os (Config.noticeOrder s.arbiter)).foldl (tellOwner fresh) { s with arbiter := s.arbiter + 1 }

/-! ## The action table -/

/-- Whether an entry answers this key under this plan (R85, R87). -/
def ActionEntry.answers (e : ActionEntry) (t : Fin 4) (band : Band) (edge : Edge) (plan : Fin 8) : Bool :=
  e.valid && decide (e.tracker = t) && decide (e.band = band) && decide (e.edge = edge) && e.plans.getLsbD plan

/-- The valid entry with a key whose plan set contains the plan; the overlap law allows at most one (R85, R87). -/
def State.findEntry (s : State) (t : Fin 4) (band : Band) (edge : Edge) (plan : Fin 8) : Option (Fin 64) :=
  (List.finRange 64).find? fun e => s.actions[e].answers t band edge plan

/-- Work of the Action Unit in hand: the state, the gates given a fresh demand, and the last PLAN item met with
its entry (R88, R89). -/
structure Work where
  state : State
  fresh : Vector Bool 2
  asked : Option (Fin 8 × Fin 64)

/-- One item of entry e run (R88). -/
def runItem (e : Fin 64) (w : Work) (item : Item) : Work :=
  let s := w.state
  let d := s.demands
  match item with
  | .pumps n =>
    { w with
      state := { s with demands := { d with pumps := { d.pumps with automatic := n, entry := some e } } } }
  | .gate g v =>
    { w with
      state :=
        { s with
          demands := { d with gates := d.gates.set g { d.gates[g] with automatic := v, entry := some e } } },
      fresh := w.fresh.set g true }
  | .scene z n =>
    { w with
      state :=
        { s with
          demands := { d with zones := d.zones.set z { d.zones[z] with automatic := n, entry := some e } } } }
  | .plan p => { w with asked := some (p, e) }
  | .event code => { w with state := raise actionSource [word code.toNat, word e.val] s }

/-- The items of an entry run in list order; no entry does nothing (R87, R88). -/
def runEntry (e : Option (Fin 64)) (w : Work) : Work :=
  match e with
  | none => w
  | some e => w.state.actions[e].items.foldl (runItem e) w

/-- The causes of a PLAN event: 0 SET_PLAN, 1 ACTION, 2 ISOLATION (R93, R165). -/
inductive PlanCause where
  | setPlan | action (entry : Fin 64) | isolation
deriving DecidableEq, Repr

/-- The cause word and the entry index word of a PLAN event (R165). -/
def planCauseWords : PlanCause → Word × Word
  | .setPlan => (0, 0xFFFF)
  | .action e => (1, word e.val)
  | .isolation => (2, 0xFFFF)

/-- The detail of a PLAN event: cause, old plan, new plan, entry index, the suppression mark, the plan asked for
and the suppressed entry (R93, R165). -/
def planDetail (cause : PlanCause) (old new : Fin 8) (suppressed : Option (Fin 8 × Fin 64)) : List Word :=
  let c := planCauseWords cause
  match suppressed with
  | none => [c.1, word old.val, word new.val, c.2, 0, 0xFFFF, 0xFFFF]
  | some (p, e) => [c.1, word old.val, word new.val, c.2, 1, word p.val, word e.val]

/-- The ENTER entry of a tracker's present effective band run in a cascade; its last PLAN item is reported as
suppressed (R91, steps 2 and 3). -/
def cascadeTracker (cause : PlanCause) (old : Fin 8) (w : Work) (t : Fin 4) : Work :=
  let s := w.state
  let ran := runEntry (s.findEntry t s.trackers[t].effective .enter s.plan) { w with asked := none }
  match ran.asked with
  | none => ran
  | some asked =>
    { ran with
      state := raise planSource (planDetail cause old s.plan (some asked)) ran.state, asked := none }

/-- The plan-change cascade toward a plan that differs from P (R91). -/
def cascade (cause : PlanCause) (plan : Fin 8) (w : Work) : Work :=
  let old := w.state.plan
  let changed := raise planSource (planDetail cause old plan none) { w.state with plan := plan }
  four.foldl (cascadeTracker cause old) { w with state := changed }

/-- The start of a piece of work of the Action Unit. -/
def startWork (s : State) : Work := { state := s, fresh := noFresh, asked := none }

/-- The end of a piece of work that began in `before`: the owners told (R101). -/
def endWork (before : State) (w : Work) : State :=
  tellOwners before.demands w.fresh (decide (w.state.plan ≠ before.plan)) w.state

/-- The work of a band change of tracker t: the LEAVE entry of the old band and the ENTER entry of the new one under P as
read at the start, then any plan change asked for (R87, R89). -/
def bandWork (t : Fin 4) (old new : Band) (s : State) : Work :=
  let plan := s.plan
  let left := runEntry (s.findEntry t old .leave plan) (startWork s)
  let entered := runEntry (left.state.findEntry t new .enter plan) left
  match entered.asked with
  | none => entered
  | some (p, e) => if p = plan then entered else cascade (.action e) p entered

/-- A band change of tracker t: its work, then the owners told (R87, R101). -/
def bandChange (t : Fin 4) (old new : Band) (s : State) : State := endWork s (bandWork t old new s)

/-- A plan change by SET_PLAN or by the isolation switch; toward the plan in force it does nothing (R82, R92). -/
def changePlan (cause : PlanCause) (plan : Fin 8) (s : State) : State :=
  if plan = s.plan then s else endWork s (cascade cause plan (startWork s))

/-! ## Supervisory parts -/

/-- The supervisory part of one record set or removed (R96 to R98). -/
def DemandRecord.withSupervisory {α : Type} (r : DemandRecord α) (v : Option (Supervisory α)) : DemandRecord α :=
  { r with supervisory := v }

/-- A demand record's supervisory part after one second of countdown: removed when its hold reaches 0 (R98). -/
def DemandRecord.countdown {α : Type} (r : DemandRecord α) : DemandRecord α :=
  match r.supervisory with
  | none => r
  | some v =>
    if v.hold = 0 then r
    else if v.hold = 1 then { r with supervisory := none }
    else { r with supervisory := some { v with hold := v.hold - 1 } }

/-- Whether the next second of countdown removes a record's supervisory part (R98). -/
def DemandRecord.expiring {α : Type} (r : DemandRecord α) : Bool := r.supervisory.any fun v => decide (v.hold = 1)

/-- Every demand record changed by one function. -/
def Demands.map (d : Demands) (f : {α : Type} → DemandRecord α → DemandRecord α) : Demands :=
  { pumps := f d.pumps, gates := Vector.ofFn fun g => f d.gates[g], zones := Vector.ofFn fun z => f d.zones[z] }

/-- Whether some record satisfies a test. -/
def Demands.any (d : Demands) (f : {α : Type} → DemandRecord α → Bool) : Bool :=
  f d.pumps || (two.any fun g => f d.gates[g]) || (four.any fun z => f d.zones[z])

/-- One demand record changed by a function. -/
def Demands.changeAt (d : Demands) (target : DemandTarget) (f : {α : Type} → DemandRecord α → DemandRecord α) :
    Demands :=
  match target with
  | .pumps => { d with pumps := f d.pumps }
  | .gate g => { d with gates := d.gates.set g (f d.gates[g]) }
  | .zone z => { d with zones := d.zones.set z (f d.zones[z]) }

/-- Whether one record satisfies a test. -/
def Demands.testAt (d : Demands) (target : DemandTarget) (f : {α : Type} → DemandRecord α → Bool) : Bool :=
  match target with
  | .pumps => f d.pumps
  | .gate g => f d.gates[g]
  | .zone z => f d.zones[z]

/-- The demand records replaced, and the owners told of the effective values that changed, with no fresh demand
(R97 to R99, R101). -/
def replaceDemands (d : Demands) (s : State) : State := tellOwners s.demands noFresh false { s with demands := d }

/-- The countdown of a second tick as one event (R98, R101). -/
def demandTick (s : State) : State := replaceDemands (s.demands.map fun r => r.countdown) s

/-- The supervisory part of every record removed at the loss of the loop (R99). -/
def removeSupervisory (s : State) : State := replaceDemands (s.demands.map fun r => r.withSupervisory none) s

/-- The supervisory part of one record removed, the owners told (R97, R98). -/
def releaseDemand (target : DemandTarget) (s : State) : State :=
  replaceDemands (s.demands.changeAt target fun r => r.withSupervisory none) s

/-- HOLD_EXPIRY: at a second tick that is due, the part whose hold it brings to 0 is removed (R98; log entry 10). -/
def execHoldExpiry (target : DemandTarget) (s : State) : Result :=
  .next (whenDue (decide (1000 ≤ s.time.msToSecond) && s.demands.testAt target fun r => r.expiring)
    (releaseDemand target) s)

/-- DEMAND for the pumps (R96). -/
def demandPumps (value hold : Nat) (s : State) : State :=
  replaceDemands
    { s.demands with pumps := { s.demands.pumps with supervisory := some { value := value, hold := hold } } } s

/-- DEMAND for a gate: a fresh demand for it (R96). -/
def demandGate (g : Fin 2) (value : GateDemand) (hold : Nat) (s : State) : State :=
  let d := s.demands
  tellOwners d (noFresh.set g true) false
    { s with
      demands :=
        { d with
          gates := d.gates.set g { d.gates[g] with supervisory := some { value := value, hold := hold } } } }

/-- DEMAND for a zone (R96). -/
def demandZone (z : Fin 4) (value : Fin 16) (hold : Nat) (s : State) : State :=
  let d := s.demands
  replaceDemands
    { d with zones := d.zones.set z { d.zones[z] with supervisory := some { value := value, hold := hold } } } s

end Sys2Proof.Machine
end

