-- ==== Sys2Proof/Machine/Trackers.lean ====
section
/-! DEFINITION. What one level tracker does with an arrival, a timer, a second tick and a command (chapter 4). These
functions change the tracker alone; Notices.lean tells its neighbours. -/

namespace Sys2Proof.Machine

/-! ## Bands (4.7) -/

/-- The number of thresholds at or below an estimate: the band from scratch (R71). -/
def scratchBand (ths : List Threshold) (e : Nat) : Nat := (ths.filter fun x => decide (x.level ≤ e)).length

/-- The band stepped up while the estimate has reached the next threshold (R71). -/
def riseBand (ths : List Threshold) (e : Nat) : Nat → Nat → Nat
  | 0, b => b
  | n + 1, b =>
    match ths[b]? with
    | none => b
    | some x => if x.level ≤ e then riseBand ths e n (b + 1) else b

/-- The band stepped down while the estimate is below the last threshold less its hysteresis (R71). -/
def fallBand (ths : List Threshold) (e : Nat) : Nat → Nat
  | 0 => 0
  | b + 1 =>
    match ths[b]? with
    | none => b + 1
    | some x => if e + x.hysteresis < x.level then fallBand ths e b else b + 1

/-- The level band stepped to an estimate; U stays U (R71). -/
def stepBand (ths : List Threshold) (e : Nat) : Band → Band
  | none => none
  | some b => some (fallBand ths e (riseBand ths e ths.length b))

/-- The level band stepped at a change of the estimate from `before` (R71). -/
def Tracker.stepFrom (t : Tracker) (before : Nat) : Tracker :=
  if t.estimate = before then t else { t with band := stepBand t.thresholds t.estimate t.band }

/-- The effective band from the level band, the surge flag and whether a named float input is active (R73). -/
def Tracker.effectiveBand (t : Tracker) (floatActive : Bool) : Band :=
  let base : Band := t.band.map fun b => if t.surge then min (b + 1) t.thresholds.length else b
  if floatActive then
    match base with
    | none => some t.hold.floatBand
    | some b => some (max b t.hold.floatBand)
  else base

/-! ## Entries to states -/

/-- Entry to FREERUN, by whatever path (R58, R64). The reported rate stands until the next second tick
(log entry 12). -/
def Tracker.enterFreerun (t : Tracker) : Tracker :=
  { t with
    state := .freerun, phase := .fast, active := .none, accumulator := 0, estimate := 0, offset := 0,
    lockFrom := none, unlockRun := 0, sampleFrom := none, watch := none, holdLevel := 0, heldRate := 0,
    holdSeconds := 0, lastRate := none, band := none, surge := false }

/-- Entry to ACQUIRE, phase FAST, the lock timer from 0 (R58, R61 to R63, R67). -/
def Tracker.enterAcquire (t : Tracker) (now : Nat) : Tracker :=
  { t with state := .acquire, phase := .fast, lockFrom := some now }

/-- The loss counter up by 1, saturating at 15, and the alarm set when it is then above the threshold (R77). -/
def Tracker.countLoss (t : Tracker) : Tracker :=
  let n := min (t.loss + 1) 15
  { t with loss := n, alarm := t.alarm || decide (t.hold.alarmThreshold < n) }

/-- The alarm re-evaluated: set when the counter is above the threshold, otherwise kept (R56, R77). -/
def Tracker.evaluateAlarm (t : Tracker) : Tracker :=
  { t with alarm := t.alarm || decide (t.hold.alarmThreshold < t.loss) }

/-- With a lock time of 1 s the change to SETTLE falls at the end of the event that started the lock timer (R60).
DESIGN CHOICE: it comes before the telling, so that a TRK detail of that event carries SETTLE (R76; log entry 33). -/
def Tracker.settleAtOnce (t : Tracker) : Tracker :=
  if t.state = .acquire ∧ t.config.lockTime / 2 = 0 then { t with phase := .settle } else t

/-! ## The filter stage (R57) -/

/-- The error of a sample against the accumulator: 16 · clamp(s + O, 0, 16383) − A (R57, steps 2 and 3). -/
def Tracker.error (t : Tracker) (sample : Nat) : Int :=
  16 * (max 0 (min (16383 : Int) (sample + t.offset))) - t.accumulator

/-- The lock test: |e| ≤ 16 · θ (R57, step 4). -/
def Tracker.passes (t : Tracker) (e : Int) : Bool := decide (e.natAbs ≤ 16 * t.config.lockThreshold)

/-- Steps 5 to 8 of the filter stage with a shift, and the level band stepped (R57, R71). -/
def Tracker.filterStep (t : Tracker) (e : Int) (shift : Nat) : Tracker :=
  let l : Int := t.config.stepLimit
  let d := max (-l) (min l (e / (2 ^ shift : Int)))
  let a := (max 0 (min (262128 : Int) (t.accumulator + d))).toNat
  Tracker.stepFrom { t with accumulator := a, estimate := (a + 8) / 16 } t.estimate

/-- A GOOD arrival from the active source in ACQUIRE (R59). -/
def Tracker.acquireSample (t : Tracker) (now sample : Nat) : Tracker :=
  let e := t.error sample
  if t.passes e then
    t.filterStep e (match t.phase with | .fast => t.config.acquireShift | .settle => t.config.trackShift)
  else (t.enterAcquire now).filterStep e t.config.acquireShift

/-- A GOOD arrival from the active source in TRACKING (R61). -/
def Tracker.trackSample (t : Tracker) (now sample : Nat) : Tracker :=
  let e := t.error sample
  if t.passes e then Tracker.filterStep { t with unlockRun := 0 } e t.config.trackShift
  else if t.unlockRun + 1 < t.config.unlockCount then
    Tracker.filterStep { t with unlockRun := t.unlockRun + 1 } e t.config.trackShift
  else
    Tracker.filterStep (Tracker.countLoss { t.enterAcquire now with unlockRun := 0 }) e t.config.acquireShift

/-! ## Sources: seeding, switching, loss (R58, R62, R63) -/

/-- The last sample of the primary or the secondary. -/
def Sources.sample (src : Sources) : Active → Option SourceSample
  | .none => none
  | .primary => src.primary
  | .secondary => src.secondary

/-- Whether the primary or the secondary is valid for a tracker (R52). -/
def Tracker.valid (t : Tracker) (src : Sources) (side : Active) : Bool :=
  validSample src.now t.config.sampleTimeout (src.sample side)

/-- The other of the two sources. -/
def Active.other : Active → Active
  | .none => .none
  | .primary => .secondary
  | .secondary => .primary

/-- A tracker seeded on a source from FREERUN (R58). -/
def Tracker.seed (t : Tracker) (side : Active) (now sample : Nat) : Tracker :=
  { t.enterAcquire now with
    active := side, offset := 0, accumulator := 16 * sample, estimate := sample, sampleFrom := some now,
    band := some (scratchBand t.thresholds sample) }

/-- A switch of source in TRACKING: hitless within the offset limit, otherwise hard (R63). -/
def Tracker.switch (t : Tracker) (side : Active) (now : Nat) (x : SourceSample) : Tracker :=
  if (t.estimate : Int) - x.value ≤ t.hold.offsetLimit ∧ (x.value : Int) - t.estimate ≤ t.hold.offsetLimit then
    { t with
      active := side, offset := (t.estimate : Int) - x.value, unlockRun := 0, sampleFrom := some x.arrival }
  else
    Tracker.stepFrom
      (Tracker.countLoss
        { t.enterAcquire now with
          active := side, offset := 0, accumulator := 16 * x.value, estimate := x.value, unlockRun := 0,
          sampleFrom := some x.arrival })
      t.estimate

/-- Hold at entry to HOLDOVER: the floor of the mean of the valid entries among the newest n, or E when there is
none (R65). -/
def Tracker.holdValue (t : Tracker) : Nat :=
  let entries := (t.ring.take t.hold.history).filter fun h => h.valid
  if entries.isEmpty then t.estimate else (entries.map fun h => h.level).sum / entries.length

/-- Entry to HOLDOVER from TRACKING (R62, R65). The reported rate is R_held, marked valid (R66, R69). -/
def Tracker.enterHoldover (t : Tracker) : Tracker :=
  let h := t.holdValue
  let r := t.lastRate.getD 0
  Tracker.stepFrom
    (Tracker.countLoss
      { t with
        state := .holdover, phase := .fast, active := .none, offset := 0, accumulator := 16 * h, estimate := h,
        lockFrom := none, sampleFrom := none, holdLevel := h, heldRate := r, holdSeconds := 0, rate := r,
        rateValid := true })
    t.estimate

/-- The loss of the active source (R62). -/
def Tracker.lose (t : Tracker) (src : Sources) : Tracker :=
  let side := t.active.other
  let other := if t.valid src side then src.sample side else none
  match t.state, other with
  | .tracking, some x => t.switch side src.now x
  | .tracking, none => t.enterHoldover
  | .acquire, some x =>
    Tracker.stepFrom
      { t.enterAcquire src.now with
        active := side, offset := 0, accumulator := 16 * x.value, estimate := x.value,
        sampleFrom := some x.arrival }
      t.estimate
  | .acquire, none => t.enterFreerun
  | .freerun, _ | .holdover, _ | .forced, _ => t

/-! ## Arrivals (R53) -/

/-- The primary watch at an arrival from the primary: a GOOD one sets it while it is none, an INVALID one sets it
to none (R64). -/
def Tracker.watchArrival (t : Tracker) (side : Active) (now : Nat) (q : Quality) : Tracker :=
  if side = .primary then
    match q with
    | .invalid => { t with watch := none }
    | .good => if t.watch = none then { t with watch := some now } else t
  else t

/-- A GOOD arrival in HOLDOVER ends it (R67). -/
def Tracker.endHoldover (t : Tracker) (src : Sources) (side : Active) (sample : Nat) : Tracker :=
  let chosen := if t.valid src .primary && t.valid src .secondary then Active.primary else side
  let back :=
    { t.enterAcquire src.now with
      active := chosen, offset := 0, sampleFrom := (src.sample chosen).map fun x => x.arrival, holdLevel := 0,
      heldRate := 0, holdSeconds := 0 }
  if chosen = side then back.acquireSample src.now sample else back

/-- An arrival in a tracker's present state, after the primary watch (R53, R58, R59, R61, R67, R75). -/
def Tracker.arrival (t : Tracker) (src : Sources) (side : Active) (sample : Nat) (q : Quality) : Tracker :=
  match t.state, q with
  | .freerun, .good =>
    if side = .primary ∨ t.valid src .primary = false then t.seed side src.now sample else t
  | .freerun, .invalid => t
  | .acquire, .good =>
    if t.active = side then Tracker.acquireSample { t with sampleFrom := some src.now } src.now sample else t
  | .tracking, .good =>
    if t.active = side then Tracker.trackSample { t with sampleFrom := some src.now } src.now sample else t
  | .acquire, .invalid | .tracking, .invalid => if t.active = side then t.lose src else t
  | .holdover, .good => t.endHoldover src side sample
  | .holdover, .invalid => t
  | .forced, _ => t

/-- A new sample handed to a tracker from its primary or its secondary (R53). -/
def Tracker.arrive (side : Active) (sample : Nat) (q : Quality) (src : Sources) (t : Tracker) : Tracker :=
  ((t.watchArrival side src.now q).arrival src side sample q).settleAtOnce

/-! ## Timers -/

/-- The sample timer is due: the active source's last arrival plus the sample timeout has come (R53). -/
def Tracker.sampleDue (t : Tracker) (now : Nat) : Bool :=
  decide (t.state = .acquire ∨ t.state = .tracking) && elapsed now t.sampleFrom t.config.sampleTimeout

/-- The sample timer expires: the active source is lost (R53, R62). -/
def Tracker.sampleExpire (src : Sources) (t : Tracker) : Tracker := (t.lose src).settleAtOnce

/-- The lock timer has reached floor(Tl / 2) × 1000 ms in phase FAST (R60). -/
def Tracker.settleDue (t : Tracker) (now : Nat) : Bool :=
  decide (t.state = .acquire ∧ t.phase = .fast) && elapsed now t.lockFrom (t.config.lockTime / 2 * 1000)

/-- The phase becomes SETTLE (R60). -/
def Tracker.settle (_ : Sources) (t : Tracker) : Tracker := { t with phase := .settle }

/-- The lock timer has reached Tl × 1000 ms (R60). -/
def Tracker.lockDue (t : Tracker) (now : Nat) : Bool :=
  decide (t.state = .acquire) && elapsed now t.lockFrom (t.config.lockTime * 1000)

/-- The tracker enters TRACKING: the lock timer stops and the unlock run is 0 (R60). -/
def Tracker.lock (_ : Sources) (t : Tracker) : Tracker :=
  { t with state := .tracking, phase := .fast, lockFrom := none, unlockRun := 0 }

/-- The primary's last arrival has grown older than the sample timeout while the watch is set (R64). -/
def Tracker.watchDue (t : Tracker) (src : Sources) : Bool :=
  t.watch.isSome &&
    match src.primary with
    | none => true
    | some x => decide (x.arrival + t.config.sampleTimeout < src.now)

/-- The primary watch becomes none (R64). -/
def Tracker.dropWatch (_ : Sources) (t : Tracker) : Tracker := { t with watch := none }

/-! ## The second tick (R74) -/

/-- The tick at which k reaches the holdover timeout (R66). -/
def Tracker.holdoverEnds (t : Tracker) : Bool :=
  decide (t.state = .holdover ∧ t.hold.timeout ≠ 0 ∧ t.hold.timeout ≤ t.holdSeconds + 1)

/-- Step 1: the holdover count, and the timeout or the extrapolation (R66). DESIGN CHOICE: under an unlimited timeout k is
counted without bound (log entry 32). -/
def Tracker.holdoverTick (t : Tracker) : Tracker :=
  if t.state = .holdover then
    if t.holdoverEnds then t.enterFreerun
    else
      let k := t.holdSeconds + 1
      let e := min 16383 (t.holdLevel + (max 0 t.heldRate).toNat * k / 60)
      Tracker.stepFrom { t with holdSeconds := k, estimate := e, accumulator := 16 * e } t.estimate
  else t

/-- The revert test (R64). The tracker reads the primary's validity at the revert: a primary whose last arrival has grown
older than the sample timeout is not valid for it, whether or not the watch has been dropped yet (R52, R170). -/
def Tracker.revertDue (t : Tracker) (src : Sources) : Bool :=
  decide (t.state = .tracking ∧ t.active = .secondary ∧ t.hold.revertTime ≠ 0) &&
    elapsed src.now t.watch (t.hold.revertTime * 1000) && t.valid src .primary

/-- Step 2: the switch back to the primary when the test holds (R63, R64). -/
def Tracker.revertTick (t : Tracker) (src : Sources) : Tracker :=
  if t.revertDue src then
    match src.primary with
    | none => t
    | some x => t.switch .primary src.now x
  else t

/-- Step 3: the offset bled toward 0 in ACQUIRE or TRACKING, never past it (R63). -/
def Tracker.bleedTick (t : Tracker) : Tracker :=
  if t.state = .acquire ∨ t.state = .tracking then
    let b : Int := t.hold.bleed
    { t with offset := if 0 ≤ t.offset then max 0 (t.offset - b) else min 0 (t.offset + b) }
  else t

/-- Step 4: E pushed onto the history ring, valid in every state but FREERUN (R68). -/
def Tracker.pushTick (t : Tracker) : Tracker :=
  { t with ring := ({ level := t.estimate, valid := decide (t.state ≠ .freerun) } :: t.ring).take 16 }

/-- Step 5: the rate of rise over the rate window, except in HOLDOVER (R69). -/
def Tracker.rateTick (t : Tracker) : Tracker :=
  if t.state = .holdover then t
  else
    let newest := t.ring.getD 0 emptyHistory
    let oldest := t.ring.getD t.hold.window emptyHistory
    if newest.valid && oldest.valid then
      let r := max (-4095) (min 4095
        ((((newest.level : Int) - oldest.level) * 60).tdiv t.hold.window))
      { t with rate := r, rateValid := true, lastRate := some r }
    else { t with rate := 0, rateValid := false }

/-- The rate as the surge qualifier uses it: an invalid rate counts as 0 (R69, R72). -/
def Tracker.usedRate (t : Tracker) : Int := if t.rateValid then t.rate else 0

/-- Step 6: the surge flag (R72). -/
def Tracker.surgeTick (t : Tracker) : Tracker :=
  { t with
    surge :=
      if t.hold.surgeRate = 0 then false
      else if (t.hold.surgeRate : Int) ≤ t.usedRate then true
      else if t.usedRate < (t.hold.surgeRate : Int) - t.hold.surgeHysteresis then false
      else t.surge }

/-- A tracker's per-second work, steps 1 to 6 in order (R74). The effective band follows in Notices.lean. -/
def Tracker.secondTick (src : Sources) (t : Tracker) : Tracker :=
  (t.holdoverTick.revertTick src).bleedTick.pushTick.rateTick.surgeTick.settleAtOnce

/-! ## Commands -/

/-- FORCE_LEVEL at a level already clamped (R75). -/
def Tracker.force (level : Nat) (_ : Sources) (t : Tracker) : Tracker :=
  let forced :=
    { t with
      state := .forced, phase := .fast, active := .none, lockFrom := none, sampleFrom := none, holdLevel := 0,
      heldRate := 0, holdSeconds := 0, offset := 0, unlockRun := 0, estimate := level,
      accumulator := 16 * level }
  if t.band = none then { forced with band := some (scratchBand t.thresholds level) }
  else forced.stepFrom t.estimate

/-- UNFORCE, on a tracker in FORCED (R75). -/
def Tracker.unforce (_ : Sources) (t : Tracker) : Tracker := t.enterFreerun

/-- A tracker that is neither FORCED nor in FREERUN sent to FREERUN by a write (R56). -/
def Tracker.restart (t : Tracker) : Tracker :=
  if t.state = .forced ∨ t.state = .freerun then t else t.enterFreerun

/-- A TRACKER write (R56). -/
def Tracker.configure (c : TrackerConfig) (_ : Sources) (t : Tracker) : Tracker :=
  Tracker.restart { t with config := c }

/-- A TRACKER_HOLD write: the alarm is re-evaluated against the new threshold (R56, R77). -/
def Tracker.configureHold (c : HoldConfig) (_ : Sources) (t : Tracker) : Tracker :=
  (Tracker.restart { t with hold := c }).evaluateAlarm

/-- A THRESHOLD write: out of FREERUN the level band is computed from scratch (R70). -/
def Tracker.configureThresholds (ths : List Threshold) (_ : Sources) (t : Tracker) : Tracker :=
  { t with
    thresholds := ths
    band := if t.state = .freerun then none else some (scratchBand ths t.estimate) }

/-- CLEAR_ALARM: cleared when the loss counter is at or below the threshold (R77). -/
def Tracker.clearAlarm (_ : Sources) (t : Tracker) : Tracker :=
  { t with alarm := t.alarm && decide (t.hold.alarmThreshold < t.loss) }

/-- PRESET of kind 1 with a value already clamped (R32, R77). -/
def Tracker.presetLoss (n : Nat) (_ : Sources) (t : Tracker) : Tracker :=
  Tracker.evaluateAlarm { t with loss := n }

end Sys2Proof.Machine
end

