-- ==== Sys2Proof/Machine/Notices.lean ====
section
/-! DEFINITION. Notices between blocks that the rules leave unordered, delivered in a free order (log entry 6); what
a tracker tells its neighbours (4.10); the tracker events and the second tick. -/

namespace Sys2Proof.Machine

/-- A notice on its way to the block that acts on it. Notices that come together may be taken in any order
(R76, R90, R98, R100, R115). -/
inductive Notice where
  /-- A tracker's effective band change, to the Action Unit (R87). -/
  | band (t : Fin 4) (old new : Band)
  /-- A change of the reopen tracker's state or effective band, to a gate (R132). -/
  | reopen (g : Fin 2)
  /-- A change of the sump tracker's state or level band, to the pump group (R115). -/
  | sump
  /-- A filtered change of an input that some pump names, to the pump group (R108 to R110). -/
  | pumpInput (i : Fin 16)
  /-- A filtered change of an input that a gate names (R130). -/
  | gateInput (g : Fin 2) (i : Fin 16)
  /-- A filtered change of the supply input (R156). -/
  | supply
  /-- The change to LOST, to the Action Unit, with the isolation plan (R82). -/
  | isolation (plan : Fin 8)
  /-- The change to LOST, to the Demand Set (R99). -/
  | removal
  /-- The countdown of a second tick in which a part expires (R98). -/
  | countdown
  /-- The pump group's work at a second tick (R115). -/
  | pumpTick
deriving DecidableEq, Repr

/-- What the block that hears a notice does. -/
def deliver (s : State) : Notice → State
  | .band t old new => bandChange t old new s
  | .reopen g => reopenNotice g s
  | .sump => sumpNotice s
  | .pumpInput i => pumpInputNotice i s
  | .gateInput g i => gateInputNotice g i s
  | .supply => supplyNotice s
  | .isolation plan => changePlan .isolation plan s
  | .removal => removeSupervisory s
  | .countdown => demandTick s
  | .pumpTick => pumpTick s

/-- The notices delivered in the k-th order. -/
def deliverIn (k : Nat) (ns : List Notice) (s : State) : State := (permute ns k).foldl deliver s

/-- The notices delivered, two or more in a free order, which uses up one free value (log entry 6). -/
def deliverAll (ns : List Notice) (s : State) : State :=
  match ns with
  | [] => s
  | [n] => deliver s n
  | ns => deliverIn (Config.noticeOrder s.arbiter) ns { s with arbiter := s.arbiter + 1 }

/-! ## A tracker's event (R73, R76) -/

/-- The detail of a TRK event (R165). -/
def trackerDetail (t : Tracker) : List Word :=
  [trackerStateCode t.state, phaseCode t, activeCode t.active, word t.loss, flagWord t.alarm]

/-- The notices of a tracker's event from its old record to its new one (R76). -/
def State.trackerNotices (s : State) (t : Fin 4) (old new : Tracker) : List Notice :=
  let stateDiffers := decide (old.state ≠ new.state)
  let bandDiffers := decide (old.band ≠ new.band)
  let effectiveDiffers := decide (old.effective ≠ new.effective)
  (if effectiveDiffers then [Notice.band t old.effective new.effective] else []) ++
    (if stateDiffers || effectiveDiffers then
      (two.filter fun g => decide (s.gates[g].config.tracker = t)).map Notice.reopen else []) ++
    (if (stateDiffers || bandDiffers) && decide (s.group.config.sump = t) then [Notice.sump] else [])

/-- A tracker's new record with the effective band recomputed at the end of its event (R73). -/
def State.finishTracker (s : State) (t : Tracker) : Tracker :=
  { t with effective := t.effectiveBand (s.inputActive t.hold.floatInput) }

/-- One event of a tracker: its own change, stored before anyone is told, its events raised, and the notices to
its neighbours (R73, R76; log entry 13). -/
def updateTracker (t : Fin 4) (f : Sources → Tracker → Tracker) (s : State) : State × List Notice :=
  let old := s.trackers[t]
  let new := s.finishTracker (f (s.sourcesOf t) old)
  let stored := s.putTracker t new
  let stateTold := if old.state = new.state then stored else raise (trackerSource t) (trackerDetail new) stored
  let alarmTold :=
    if old.alarm = new.alarm then stateTold else raise (trackerSource t) (trackerDetail new) stateTold
  let bandTold :=
    if old.effective = new.effective then alarmTold
    else raise (bandSource t)
      [bandWord old.effective, bandWord new.effective, bandWord new.band, word new.estimate] alarmTold
  (bandTold, s.trackerNotices t old new)

/-- The same event at several trackers, each storing its own change; the notices are gathered (R90). -/
def updateTrackers (ts : List (Fin 4)) (f : Fin 4 → Sources → Tracker → Tracker) (s : State) :
    State × List Notice :=
  ts.foldl (fun acc t =>
    let r := updateTracker t (f t) acc.1
    (r.1, acc.2 ++ r.2)) (s, [])

/-- One event of one tracker with its notices delivered. -/
def trackerEvent (t : Fin 4) (f : Sources → Tracker → Tracker) (s : State) : State :=
  let r := updateTracker t f s
  deliverAll r.2 r.1

/-- Which of a tracker's sources a source is, if the TRACKER record names it (R53). -/
def Tracker.sideOf (t : Tracker) (src : Source) : Active :=
  if t.config.primary = some src then .primary
  else if t.config.secondary = some src then .secondary
  else .none

/-- A new sample of a source handed to every tracker that names it (R14, R44, R53). -/
def sampleArrival (src : Source) (sample : Nat) (q : Quality) (s : State) : State :=
  let ts := four.filter fun t => decide (s.trackers[t].sideOf src ≠ .none)
  let r := updateTrackers ts (fun t => Tracker.arrive (s.trackers[t].sideOf src) sample q) s
  deliverAll r.2 r.1

/-! ## Tracker timers -/

/-- SAMPLE_TIMER_EXPIRY (R53, R62). -/
def execSampleTimerExpiry (t : Fin 4) (s : State) : Result :=
  .next (whenDue (s.trackers[t].sampleDue s.now) (trackerEvent t Tracker.sampleExpire) s)

/-- LOCK_SETTLE (R60). -/
def execLockSettle (t : Fin 4) (s : State) : Result :=
  .next (whenDue (s.trackers[t].settleDue s.now) (trackerEvent t Tracker.settle) s)

/-- LOCK_TIME_END (R60). -/
def execLockTimeEnd (t : Fin 4) (s : State) : Result :=
  .next (whenDue (s.trackers[t].lockDue s.now) (trackerEvent t Tracker.lock) s)

/-- PRIMARY_WATCH_EXPIRY (R64). -/
def execPrimaryWatchExpiry (t : Fin 4) (s : State) : Result :=
  .next (whenDue (s.trackers[t].watchDue (s.sourcesOf t)) (trackerEvent t Tracker.dropWatch) s)

/-- HOLDOVER_TIMEOUT: at a second tick that is due, the tracker whose k the tick brings to the holdover timeout
goes to FREERUN (R66; log entry 10). -/
def execHoldoverTimeout (t : Fin 4) (s : State) : Result :=
  .next (whenDue (decide (1000 ≤ s.time.msToSecond) && s.trackers[t].holdoverEnds)
    (trackerEvent t fun _ x => x.enterFreerun) s)

/-- REVERT: at a second tick that is due, the tracker whose revert test holds switches to its primary
(R64; log entry 10). -/
def execRevert (t : Fin 4) (s : State) : Result :=
  .next (whenDue (decide (1000 ≤ s.time.msToSecond) && s.trackers[t].revertDue (s.sourcesOf t))
    (trackerEvent t fun src x => (x.revertTick src).settleAtOnce) s)

/-! ## The second tick -/

/-- The seconds count advanced at a whole second of the time base (R1). -/
def advanceSecond (s : State) : State :=
  { s with
    time := { s.time with seconds := s.time.seconds + 1, msToSecond := s.time.msToSecond - 1000 } }

/-- A second tick: the seconds count, each tracker's work (R74), then the trackers' notices, the countdown of the
Demand Set (R98) and the pump group's work (R115), which the rules leave unordered. A countdown that removes no
part tells no one and is made with the trackers' work. -/
def secondStep (s : State) : State :=
  let ticked := advanceSecond s
  let r := updateTrackers four (fun _ => Tracker.secondTick) ticked
  if r.1.demands.any fun d => d.expiring then deliverAll (r.2 ++ [.countdown, .pumpTick]) r.1
  else
    deliverAll (r.2 ++ [.pumpTick]) { r.1 with demands := r.1.demands.map fun d => d.countdown }

/-- SECOND_TICK: due at each whole second of the time base (R1, R74). -/
def execSecondTick (s : State) : Result :=
  .next (whenDue (decide (1000 ≤ s.time.msToSecond)) secondStep s)

end Sys2Proof.Machine
end

