-- ==== Sys2Proof/Machine/Inputs.lean ====
section
/-! DEFINITION. The Input Unit (chapter 3): the converter, the analog records, the digital filtering; and the
completion of Reply Queue entries, which a one-shot conversion makes (R22, R23, R38). -/

namespace Sys2Proof.Machine

/-! ## Replies (R22, R23) -/

/-- The status of a completed command (R22). -/
inductive Status where
  | done | cancelled | privilege | busy | range | overlap | full | state | unknown
deriving DecidableEq, Repr

/-- The status codes of R22. -/
def statusCode : Status → Byte
  | .done => 0 | .cancelled => 1 | .privilege => 2 | .busy => 3 | .range => 4 | .overlap => 5 | .full => 6
  | .state => 7 | .unknown => 8

/-- A reply cell: word A, the tag echoed, the transaction number and status, the reply status word, then the
reply data (R22, 2.7). -/
def replyCell (reply : ReplyTo) (status : Status) (data : List Word) : List Word :=
  composeA kindReply (4 + data.length) :: reply.tag :: bytesWord reply.transaction (statusCode status) ::
    bytesWord (statusCode status) reply.code :: data

/-- The entry of a command completed: it leaves the reserved entries and its cell joins the completed ones, last
in the order of completion (R23). -/
def completeReply (reply : ReplyTo) (status : Status) (data : List Word) (s : State) : State :=
  { s with
    replies :=
      { reserved := s.replies.reserved.erase reply
        completed := s.replies.completed ++ [replyCell reply status data] } }

/-! ## The converter (3.1) -/

/-- A conversion of an input started now (R34). -/
def startConversion (input : Fin 16) (kind : ConversionKind) (s : State) : State :=
  { s with converter := { s.converter with inFlight := some { input := input, kind := kind, start := s.now } } }

/-- The scan conversion at the scan position started, and the position moved on, or IDLE when the list holds no
entry there (R34, R35). -/
def startScan (s : State) : State :=
  let c := s.converter
  match c.scanList[c.position]? with
  | none => { s with converter := { c with inFlight := none } }
  | some i =>
    startConversion i .scan
      { s with
        converter := { c with position := if c.position + 1 < c.scanList.length then c.position + 1 else 0 } }

/-- The next conversion chosen: the restart flag, then the waiting one-shot, then the scan, then IDLE (R34). -/
def startNext (s : State) : State :=
  let c := s.converter
  let restarted : Converter := if c.restart then { c with position := 0, restart := false } else c
  let ready := { s with converter := restarted }
  match c.slot with
  | .waiting i reply =>
    startConversion i .oneShot { ready with converter := { restarted with slot := .inFlight i reply } }
  | .empty | .inFlight _ _ => startScan ready

/-! ## Analog records (3.4) -/

/-- The corrected code: floor((r × G + 2048) / 4096) (R40). -/
def correctedCode (raw gain : Nat) : Nat := (raw * gain + 2048) / 4096

/-- The scaled value of a corrected code, clamped; 0 when c − Z is negative (R42, R43). -/
def scaledValue (c : AnalogConfig) (corrected limit : Nat) : Nat :=
  if corrected < c.zero then 0 else min limit (((corrected - c.zero) * c.scale + 128) / 256)

/-- The value, quality and cause of a conversion by the role of its input (R42, R43). -/
def judgeCode (c : AnalogConfig) (raw corrected : Nat) : Nat × Quality × AnalogCause :=
  match c.role with
  | .none => (0, .invalid, .noRole)
  | .current => (scaledValue c corrected 4095, .good, .none)
  | .level =>
    if raw = 4095 then (0, .invalid, .overRange)
    else if corrected < c.floor then (0, .invalid, .wireBreak)
    else (scaledValue c corrected 16383, .good, .none)

/-- An analog record updated at the completion of a conversion (R40, R44). -/
def convertRecord (raw gain now : Nat) (a : Analog) : Analog :=
  let corrected := correctedCode raw gain
  let judged := judgeCode a.config raw corrected
  { a with
    raw := raw, corrected := corrected, value := judged.1, quality := judged.2.1, cause := judged.2.2,
    time := some now }

/-- The result handed to the input's consumers: trackers for LEVEL, lamp channels for CURRENT (R44). -/
def feedConsumers (i : Fin 16) (s : State) : State :=
  let a := s.analog[i]
  match a.config.role with
  | .none => s
  | .level => sampleArrival (.analog i) a.value a.quality s
  | .current =>
    (eight.filter fun c => decide (s.lamps[c].config.current = some i)).foldl
      (fun s c => currentCheck c a.value s) s

/-- The reply data of a one-shot conversion: raw code, corrected code, value, quality (R38). -/
def conversionData (a : Analog) : List Word :=
  [word a.raw, word a.corrected, word a.value, qualityCode a.quality]

/-- The one-shot request whose conversion was in flight completes with DONE and the slot empties; any other slot is
left as it stands (R38). -/
def finishOneShot (i : Fin 16) (s : State) : State :=
  match s.converter.slot with
  | .inFlight _ reply =>
    completeReply reply .done (conversionData s.analog[i])
      { s with converter := { s.converter with slot := .empty } }
  | .empty | .waiting _ _ => s

/-- The completion of the conversion in flight (R34, R38, R44). -/
def completeConversion (raw : BitVec 12) (s : State) : State :=
  match s.converter.inFlight with
  | none => s
  | some c =>
    let recorded := s.putAnalog c.input (convertRecord raw.toNat s.gain s.now s.analog[c.input])
    let fed := feedConsumers c.input recorded
    startNext (if c.kind = .oneShot then finishOneShot c.input fed else fed)

/-- A conversion in flight is due to complete 1 ms after its start (R34). -/
def State.conversionDue (s : State) : Bool :=
  elapsed s.now (s.converter.inFlight.map fun c => c.start) 1

/-- CONVERSION_COMPLETE (R34). -/
def execConversionComplete (raw : BitVec 12) (s : State) : Result :=
  .next (whenDue s.conversionDue (completeConversion raw) s)

/-! ## Digital inputs (3.6) -/

/-- One sample of a digital input: the raw state through the polarity, and the disagreement run; a run that
exceeds the debounce time makes the change of filtered state due (R46, R47; log entry 11). -/
def Digital.sample (d : Digital) (level : Bool) : Digital :=
  let raw := level != d.config.activeLow
  if raw = d.filtered then { d with level := level, raw := raw, run := 0, changeDue := false }
  else
    { d with
      level := level, raw := raw, run := min (d.run + 1) 256,
      changeDue := decide (d.config.debounce < d.run + 1) }

/-- A 1 ms tick of the time base: its reading advances and every digital input is sampled (R1, R46). -/
def millisecond (levels : Word) (s : State) : State :=
  { s with
    time :=
      { s.time with
        now := s.time.now + 1, msToSecond := s.time.msToSecond + 1, msToRamp := s.time.msToRamp + 1 }
    digital := Vector.ofFn fun i => s.digital[i].sample (levels.getLsbD i) }

/-- DIGITAL_INPUT_SAMPLE: the 1 ms tick (R46). -/
def execDigitalInputSample (levels : Word) (s : State) : Result := .next (millisecond levels s)

/-- Whether the event edges of an input include the direction of a change to this state (R48). -/
def Edges.include (e : Edges) (active : Bool) : Bool :=
  match e, active with
  | .both, _ => true
  | .activate, true => true
  | .deactivate, false => true
  | .none, _ | .activate, false | .deactivate, true => false

/-- A filtered change reported: the input joins the changed set and the INPUT event is raised, if the edges
include the direction and the source is enabled (R48). -/
def reportInput (i : Fin 16) (s : State) : State :=
  let d := s.digital[i]
  if d.config.edges.include d.filtered && s.enabled inputSource then
    let marked := s.putDigital i { d with changed := true }
    raise inputSource [marked.changedWord, marked.filteredWord] marked
  else s

/-- The owners of input i other than the trackers: pumps, gates and the Load Allocator (R46). -/
def State.inputNotices (s : State) (i : Fin 16) : List Notice :=
  (if four.any fun p => decide (s.pumps[p].config.feedback = i ∨ s.pumps[p].config.fault = some i) then
      [Notice.pumpInput i] else []) ++
    ((two.filter fun g =>
        decide (s.gates[g].config.openLimit = i ∨ s.gates[g].config.closedLimit = i ∨
          s.gates[g].config.obstruction = some i)).map fun g => Notice.gateInput g i) ++
    (if s.allocator.budget.supply = some i then [Notice.supply] else [])

/-- The filtered state changes to the raw state, every owner is told at once, and the change is reported
(R46, R48). A tracker re-evaluates its effective band (R73). -/
def filteredChange (i : Fin 16) (s : State) : State :=
  let d := s.digital[i]
  let changed := s.putDigital i { d with filtered := d.raw, run := 0, changeDue := false }
  let ts := four.filter fun t => decide (changed.trackers[t].hold.floatInput = some i)
  let r := updateTrackers ts (fun _ _ t => t) changed
  reportInput i (deliverAll (r.2 ++ changed.inputNotices i) r.1)

/-- FILTERED_STATE_CHANGE: due once the sample of this tick has carried the run past the debounce time (R46). -/
def execFilteredStateChange (i : Fin 16) (s : State) : Result :=
  .next (whenDue s.digital[i].changeDue (filteredChange i) s)

end Sys2Proof.Machine
end

