-- ==== Sys2Proof/Machine/Resets.lean ====
section
/-! DEFINITION. The two resets: the master reset of the pin and the line reset of the LINE_RESET command (R13, R17,
R24, R51, R79, R103, R126, R143, R154, R162, R168). -/

namespace Sys2Proof.Machine

/-- MASTER_RESET: every table and state to its factory value, with the straps and the levels sampled at the reset.
The Factory Store is fixed at manufacture (R17, R39, R51). -/
def execMasterReset (straps : Byte) (levels : Word) (s : State) : Result :=
  .next (resetState straps levels s.factory s.arbiter s.pending)

/-- A tracker after line reset: FREERUN, its records, loss counter and alarm kept (R79). -/
def Tracker.lineReset (floatActive : Bool) (t : Tracker) : Tracker :=
  let freed :=
    { t.enterFreerun with
      ring := List.replicate 16 emptyHistory, rate := 0, rateValid := false }
  { freed with effective := freed.effectiveBand floatActive }

/-- A pump after line reset: a running one becomes IDLE with no cause (R126). -/
def Pump.lineReset (p : Pump) : Pump :=
  let rest := { p with confirmFrom := none, runOnFrom := none, runStart := none }
  if p.runOutput then { rest with state := .idle, cause := none } else rest

/-- A gate after line reset: a moving one becomes STOPPED with no detail (R143). -/
def Gate.lineReset (g : Gate) : Gate :=
  let rest :=
    { g with
      demand := .none, leadFrom := none, leadInForce := none, travelFrom := none, reverseFrom := none,
      retry := 0, held := false }
  match g.state with
  | .warning | .closing | .reversing | .opening => { rest with state := .stopped, detail := none }
  | .absent | .opened | .closed | .stopped | .fault => rest

/-- The converter after line reset: the slot empty; the scan to begin again, at once when IDLE (R38, R51). -/
def resetConverter (s : State) : State :=
  let c := s.converter
  match c.inFlight with
  | some _ => { s with converter := { c with slot := .empty, restart := true } }
  | none => startScan { s with converter := { c with slot := .empty, position := 0 } }

/-- The tables of the block after line reset, before the lamps take their targets (R13, R24, R79, R103, R126, R143,
R162, R168). -/
def resetBlocks (s : State) : State :=
  { s with
    slots := Vector.replicate 8 emptySlot
    replies := { reserved := [], completed := [] }
    digital := Vector.ofFn fun i => { s.digital[i] with changed := false }
    trackers := Vector.ofFn fun t => s.trackers[t].lineReset (s.inputActive s.trackers[t].hold.floatInput)
    plan := 0
    demands := resetDemands
    pumps := Vector.ofFn fun p => s.pumps[p].lineReset
    group := { s.group with reason := .none, waiting := false, demand := 0 }
    gates := Vector.ofFn fun g => s.gates[g].lineReset
    allocator := { s.allocator with mode := s.supplyMode, stage := 0, releaseFrom := none }
    events := resetEvents
    beacon := resetBeacon }

/-- The lamps after line reset: outputs and faults kept, targets recomputed, check runs and LIMITED marks cleared
(R154). -/
def resetLamps (s : State) : State :=
  s.mapLamps fun c l =>
    { l with
      target := s.targetOf c l, limited := false, verdict := .none, count := 0, measured := none,
      expected := none }

/-- A line reset of the whole part (R31). -/
def lineReset (s : State) : State := resetLamps (resetBlocks (resetConverter s))

end Sys2Proof.Machine
end

