-- ==== Sys2Proof/Machine/Operands.lean ====
section
/-! DEFINITION. The records of the sixteen tables as words: reading a record's fields with their refusals and clamps,
and writing a stored record out (R25; R10, R36, R39, R41, R47, R54, R55, R70, R83, R84, R104, R106, R127, R144,
R146, R155, R163). A reading that answers `none` is a RANGE refusal. -/

namespace Sys2Proof.Machine

/-! ## Fields common to the records (R25) -/

/-- A yes or no: 0 or 1. -/
def readBool (w : Word) : Option Bool := if w = 0 then some false else if w = 1 then some true else none

/-- A number below n. -/
def readFin (n : Nat) (w : Word) : Option (Fin n) := if h : w.toNat < n then some ⟨w.toNat, h⟩ else none

/-- A number below n, or NONE as 0xFFFF. -/
def readOptFin (n : Nat) (w : Word) : Option (Option (Fin n)) :=
  if w = 0xFFFF then some none else (readFin n w).map some

/-- A digital input for a role: 0 to 14, never the maintenance key (R47). -/
def readInput (w : Word) : Option (Fin 16) := (readFin 15 w).map fun i => i.castSucc

/-- A digital input for a role, or NONE (R47). -/
def readOptInput (w : Word) : Option (Option (Fin 16)) :=
  if w = 0xFFFF then some none else (readInput w).map some

/-- A band: 0 to 8, or U as 0x00FF. -/
def readBand (w : Word) : Option Band :=
  if w = 0x00FF then some none else if w.toNat ≤ 8 then some (some w.toNat) else none

/-- A band that may not be U: 0 to 8. -/
def readNumber (w : Word) : Option Nat := if w.toNat ≤ 8 then some w.toNat else none

/-- A set of eight members: bits 8 to 15 must be clear. -/
def readSet (w : Word) : Option Byte := if highByte w = 0 then some (lowByte w) else none

/-- A test that must hold. -/
def need (b : Bool) : Option Unit := if b then some () else none

/-- A field clamped to a range. -/
def clampWord (lo hi : Nat) (w : Word) : Nat := clamp lo hi w.toNat

/-- An optional number below n as a word. -/
def optFinWord {n : Nat} (i : Option (Fin n)) : Word := optWord (i.map fun x => x.val)

/-! ## TAG (1.4, R10) -/

/-- The dispositions by number. -/
def readDisposition (w : Word) : Option Disposition :=
  match w.toNat with
  | 0 => some .execute | 1 => some .executeForward | 2 => some .capture | 3 => some .pass | _ => none

/-- The number of a disposition. -/
def dispositionWord : Disposition → Word
  | .execute => 0 | .executeForward => 1 | .capture => 2 | .pass => 3

/-- A TAG record: slot and element are stored as 0 unless the disposition is CAPTURE (R10). -/
def readTag : List Word → Option TagEntry
  | [v, base, mask, kinds, d, slot, element] => do
    let valid ← readBool v
    let _ ← need (decide (kinds &&& 0xFFF5 = 0))
    let disposition ← readDisposition d
    if disposition = .capture then
      let j ← readFin 8 slot
      let e ← readFin 4 element
      some { valid := valid, base := base, mask := mask, kinds := kinds, disposition := disposition, slot := j,
             element := e }
    else
      some { valid := valid, base := base, mask := mask, kinds := kinds, disposition := disposition, slot := 0,
             element := 0 }
  | _ => none

/-- A TAG record as words. -/
def tagWords (e : TagEntry) : List Word :=
  [flagWord e.valid, e.base, e.mask, e.kinds, dispositionWord e.disposition, word e.slot.val, word e.element.val]

/-! ## ACTION (5.2, R83, R84) -/

/-- A gate demand by number: 0 NONE, 1 OPEN, 2 CLOSE. -/
def readGateDemand (w : Word) : Option GateDemand :=
  match w.toNat with
  | 0 => some .none | 1 => some .open | 2 => some .close | _ => none

/-- One item (R84). -/
def readItem (kind a b : Word) : Option Item :=
  match kind.toNat with
  | 0 => if a.toNat ≤ 7 then some (.pumps (min a.toNat 4)) else none
  | 1 => do
    let g ← readFin 2 a
    let v ← readGateDemand b
    some (.gate g v)
  | 2 => do
    let z ← readFin 4 a
    let n ← readFin 16 b
    some (.scene z n)
  | 3 => (readFin 8 a).map Item.plan
  | 4 => if a.toNat ≤ 255 then some (.event (lowByte a)) else none
  | _ => none

/-- The items of a record, three words each. -/
def readItems : List Word → Option (List Item)
  | [] => some []
  | k :: a :: b :: rest => do
    let item ← readItem k a b
    let items ← readItems rest
    some (item :: items)
  | _ => none

/-- The edge of a key: 0 ENTER, 1 LEAVE. -/
def readEdge (w : Word) : Option Edge := if w = 0 then some .enter else if w = 1 then some .leave else none

/-- An ACTION record of 6 + 3m words, m from 1 to 4 (R83). -/
def readAction : List Word → Option ActionEntry
  | v :: t :: b :: ed :: ps :: m :: items => do
    let valid ← readBool v
    let tracker ← readFin 4 t
    let band ← readBand b
    let edge ← readEdge ed
    let plans ← readSet ps
    let _ ← need (decide (1 ≤ m.toNat ∧ m.toNat ≤ 4 ∧ items.length = 3 * m.toNat))
    let list ← readItems items
    some { valid := valid, tracker := tracker, band := band, edge := edge, plans := plans, items := list }
  | _ => none

/-- An item as its three words, ignored operands as 0 (R84). -/
def itemWords : Item → List Word
  | .pumps n => [0, word n, 0]
  | .gate g v => [1, word g.val, gateDemandCode v]
  | .scene z n => [2, word z.val, word n.val]
  | .plan p => [3, word p.val, 0]
  | .event code => [4, word code.toNat, 0]

/-- The word of an edge. -/
def edgeWord : Edge → Word
  | .enter => 0 | .leave => 1

/-- An ACTION record as words. -/
def actionWords (e : ActionEntry) : List Word :=
  [flagWord e.valid, word e.tracker.val, bandWord e.band, edgeWord e.edge, word e.plans.toNat,
    word e.items.length] ++ e.items.flatMap itemWords

/-! ## SCENE (R146) -/

/-- A SCENE record: eight levels, each clamped to 255. -/
def readScene (ws : List Word) : Option (Vector Nat 8) :=
  if ws.length = 8 then some (Vector.ofFn fun c : Fin 8 => clampWord 0 255 (ws.getD c 0)) else none

/-- A SCENE record as words. -/
def sceneWords (v : Vector Nat 8) : List Word := v.toList.map word

/-! ## THRESHOLD (4.7, R70) -/

/-- The pairs of a THRESHOLD record, the hysteresis clamped to 1023. -/
def readPairs : List Word → Option (List Threshold)
  | [] => some []
  | l :: h :: rest => do
    let _ ← need (decide (l.toNat ≤ 16383))
    let pairs ← readPairs rest
    some ({ level := l.toNat, hysteresis := clampWord 0 1023 h } :: pairs)
  | _ => none

/-- Whether the thresholds are strictly ascending. -/
def ascending : List Threshold → Bool
  | [] => true
  | [_] => true
  | a :: b :: rest => decide (a.level < b.level) && ascending (b :: rest)

/-- A THRESHOLD record of 1 + 2n words, n from 0 to 8 (R70). -/
def readThresholds : List Word → Option (List Threshold)
  | n :: rest => do
    let _ ← need (decide (n.toNat ≤ 8 ∧ rest.length = 2 * n.toNat))
    let pairs ← readPairs rest
    let _ ← need (ascending pairs)
    some pairs
  | _ => none

/-- A THRESHOLD record as words. -/
def thresholdWords (ths : List Threshold) : List Word :=
  word ths.length :: ths.flatMap fun x => [word x.level, word x.hysteresis]

/-! ## TRACKER and TRACKER_HOLD (4.2, R54, R55) -/

/-- A source word: an analog input, a slot, or NONE (R52). -/
def readSource (w : Word) : Option (Option Source) :=
  if w = 0xFFFF then some none
  else if h : w.toNat < 16 then some (some (.analog ⟨w.toNat, h⟩))
  else if h : w.toNat - 16 < 8 then some (some (.slot ⟨w.toNat - 16, h⟩))
  else none

/-- A source as its word (R52). -/
def sourceWord : Option Source → Word
  | none => 0xFFFF
  | some (.analog i) => word i.val
  | some (.slot j) => word (16 + j.val)

/-- Whether a source may be named: a local input must be in the LEVEL role (R54). -/
def State.sourceAllowed (s : State) : Option Source → Bool
  | some (.analog i) => decide (s.analog[i].config.role = .level)
  | some (.slot _) => true
  | none => true

/-- A TRACKER record (R54). -/
def readTracker (s : State) : List Word → Option TrackerConfig
  | [p, q, ba, bt, l, th, tl, nu, st] => do
    let primary ← readSource p
    let secondary ← readSource q
    let _ ← need (s.sourceAllowed primary && s.sourceAllowed secondary)
    let _ ← need (decide (primary = none ∨ primary ≠ secondary))
    some
      { primary := primary, secondary := secondary, acquireShift := clampWord 0 10 ba,
        trackShift := clampWord 0 10 bt, stepLimit := clampWord 1 65535 l, lockThreshold := clampWord 1 1023 th,
        lockTime := clampWord 1 255 tl, unlockCount := clampWord 1 15 nu, sampleTimeout := clampWord 100 10000 st }
  | _ => none

/-- A TRACKER record as words. -/
def trackerWords (c : TrackerConfig) : List Word :=
  [sourceWord c.primary, sourceWord c.secondary, word c.acquireShift, word c.trackShift, word c.stepLimit,
    word c.lockThreshold, word c.lockTime, word c.unlockCount, word c.sampleTimeout]

/-- A TRACKER_HOLD record (R55). -/
def readHold : List Word → Option HoldConfig
  | [n, tmo, w, sr, sh, ol, bl, rt, fi, fb, la] => do
    let floatInput ← readOptInput fi
    let floatBand ← readNumber fb
    some
      { history := clampWord 0 16 n, timeout := clampWord 0 3600 tmo, window := clampWord 1 15 w,
        surgeRate := clampWord 0 4095 sr, surgeHysteresis := clampWord 0 4095 sh,
        offsetLimit := clampWord 0 1023 ol, bleed := clampWord 0 15 bl, revertTime := clampWord 0 255 rt,
        floatInput := floatInput, floatBand := floatBand, alarmThreshold := clampWord 0 15 la }
  | _ => none

/-- A TRACKER_HOLD record as words. -/
def holdWords (c : HoldConfig) : List Word :=
  [word c.history, word c.timeout, word c.window, word c.surgeRate, word c.surgeHysteresis, word c.offsetLimit,
    word c.bleed, word c.revertTime, optFinWord c.floatInput, word c.floatBand, word c.alarmThreshold]

/-! ## ANALOG, DIGITAL, SCAN, GAIN (chapter 3) -/

/-- The roles of an analog input by number. -/
def readRole (w : Word) : Option AnalogRole :=
  match w.toNat with
  | 0 => some .none | 1 => some .level | 2 => some .current | _ => none

/-- The word of an analog role. -/
def roleWord : AnalogRole → Word
  | .none => 0 | .level => 1 | .current => 2

/-- Whether some TRACKER or LAMP record names an analog input (R41). -/
def State.analogNamed (s : State) (i : Fin 16) : Bool :=
  (four.any fun t => decide (s.trackers[t].sideOf (.analog i) ≠ .none)) ||
    (eight.any fun c => decide (s.lamps[c].config.current = some i))

/-- An ANALOG record for input i (R41). -/
def readAnalog (s : State) (i : Fin 16) : List Word → Option AnalogConfig
  | [r, z, k, f] => do
    let role ← readRole r
    let _ ← need (decide (role = s.analog[i].config.role) || !s.analogNamed i)
    some { role := role, zero := clampWord 0 4095 z, scale := k.toNat, floor := clampWord 0 4095 f }
  | _ => none

/-- An ANALOG record as words. -/
def analogWords (c : AnalogConfig) : List Word := [roleWord c.role, word c.zero, word c.scale, word c.floor]

/-- The event edges by number. -/
def readEdges (w : Word) : Option Edges :=
  match w.toNat with
  | 0 => some .none | 1 => some .activate | 2 => some .deactivate | 3 => some .both | _ => none

/-- The word of the event edges. -/
def edgesWord : Edges → Word
  | .none => 0 | .activate => 1 | .deactivate => 2 | .both => 3

/-- A DIGITAL record for input i; that of input 15 is fixed (R47). -/
def readDigital (i : Fin 16) : List Word → Option DigitalConfig
  | [p, d, e] => do
    let _ ← need (decide (i ≠ 15))
    let activeLow ← readBool p
    let edges ← readEdges e
    some { activeLow := activeLow, debounce := clampWord 0 255 d, edges := edges }
  | _ => none

/-- A DIGITAL record as words. -/
def digitalWords (c : DigitalConfig) : List Word := [flagWord c.activeLow, word c.debounce, edgesWord c.edges]

/-- Input numbers, each 0 to 15. -/
def readInputs : List Byte → Option (List (Fin 16))
  | [] => some []
  | b :: rest => do
    let i ← readFin 16 (b.setWidth 16)
    let is ← readInputs rest
    some (i :: is)

/-- A SCAN record of 1 + ceil(n / 2) words, n from 0 to 24, two entries a word, the earlier in the high byte; the
low byte of the last word is ignored when n is odd (R25, R36). -/
def readScan : List Word → Option (List (Fin 16))
  | n :: rest => do
    let _ ← need (decide (n.toNat ≤ 24 ∧ rest.length = (n.toNat + 1) / 2))
    readInputs ((rest.flatMap fun w => [highByte w, lowByte w]).take n.toNat)
  | _ => none

/-- The entries of a scan list two a word; an odd last one leaves the low byte 0 (R33; log entry 16). -/
def scanPairs : List (Fin 16) → List Word
  | [] => []
  | [a] => [word (a.val <<< 8)]
  | a :: b :: rest => word (a.val <<< 8 ||| b.val) :: scanPairs rest

/-- A SCAN record as words. -/
def scanWords (l : List (Fin 16)) : List Word := word l.length :: scanPairs l

/-! ## PUMP and PUMP_GROUP (6.1, R104, R106) -/

/-- A PUMP record (R104). -/
def readPump : List Word → Option PumpConfig
  | [av, fb, fi, rl, sl, ct, mr, ro, sh, pm] => do
    let available ← readBool av
    let feedback ← readInput fb
    let fault ← readOptInput fi
    let _ ← need (decide (fault ≠ some feedback))
    let planMask ← readSet pm
    some
      { available := available, feedback := feedback, fault := fault, rated := rl.toNat,
        start := max rl.toNat sl.toNat, confirm := clampWord 1 60 ct, minimumRun := clampWord 0 3600 mr,
        runOn := clampWord 0 600 ro, startsPerHour := clampWord 1 15 sh, planMask := planMask }
  | _ => none

/-- A PUMP record as words. -/
def pumpWords (c : PumpConfig) : List Word :=
  [flagWord c.available, word c.feedback.val, optFinWord c.fault, word c.rated, word c.start, word c.confirm,
    word c.minimumRun, word c.runOn, word c.startsPerHour, word c.planMask.toNat]

/-- A PUMP_GROUP record (R106). -/
def readGroup : List Word → Option GroupConfig
  | [t, d, st] => do
    let sump ← readFin 4 t
    let dryBand ← if d = 0xFFFF then some none else (readNumber d).map some
    some { sump := sump, dryBand := dryBand, stagger := clampWord 1 120 st }
  | _ => none

/-- A PUMP_GROUP record as words. -/
def groupWords (c : GroupConfig) : List Word := [word c.sump.val, optWord c.dryBand, word c.stagger]

/-! ## GATE (7.1, R127) -/

/-- Whether every channel of a warning set has the WARN role (R127). -/
def State.allWarn (s : State) (channels : Byte) : Bool :=
  eight.all fun c => !channels.getLsbD c || decide (s.lamps[c].config.role = .warn)

/-- A GATE record (R127). The degraded lead time is clamped between the lead time of the same record and 600. -/
def readGate (s : State) : List Word → Option GateConfig
  | [p, ol, cl, ob, tt, ld, dl, wc, rt, rl, tk, bd] => do
    let present ← readBool p
    let openLimit ← readInput ol
    let closedLimit ← readInput cl
    let obstruction ← readOptInput ob
    let _ ← need (decide (openLimit ≠ closedLimit ∧ obstruction ≠ some openLimit ∧ obstruction ≠ some closedLimit))
    let warning ← readSet wc
    let _ ← need (s.allWarn warning)
    let tracker ← readFin 4 tk
    let band ← readNumber bd
    let lead := clampWord 0 600 ld
    some
      { present := present, openLimit := openLimit, closedLimit := closedLimit, obstruction := obstruction,
        travel := clampWord 5 600 tt, lead := lead, degraded := clampWord lead 600 dl, warning := warning,
        reverse := clampWord 0 30 rt, retryLimit := clampWord 0 7 rl, tracker := tracker, band := band }
  | _ => none

/-- A GATE record as words. -/
def gateWords (c : GateConfig) : List Word :=
  [flagWord c.present, word c.openLimit.val, word c.closedLimit.val, optFinWord c.obstruction, word c.travel,
    word c.lead, word c.degraded, word c.warning.toNat, word c.reverse, word c.retryLimit, word c.tracker.val,
    word c.band]

/-! ## LAMP (8.1, R144) -/

/-- The roles of a lamp channel by number. -/
def readLampRole (w : Word) : Option LampRole := if w = 0 then some .general else if w = 1 then some .warn else none

/-- The word of a lamp role. -/
def lampRoleWord : LampRole → Word
  | .general => 0 | .warn => 1

/-- Whether a GATE record names a channel in its warning set (R144). -/
def State.warningNamed (s : State) (c : Fin 8) : Bool := two.any fun g => s.gates[g].config.warning.getLsbD c

/-- The reserve with a record in place of channel c's stored one (R144). -/
def State.reserveWith (s : State) (c : Fin 8) (l : LampConfig) : Nat :=
  (eight.map fun n => if n = c then reserveLoad l else reserveLoad s.lamps[n].config).sum

/-- The current input of a LAMP record: NONE, or an analog input in the CURRENT role (R144). -/
def State.currentAllowed (s : State) : Option (Fin 16) → Bool
  | none => true
  | some i => decide (s.analog[i].config.role = .current)

/-- A LAMP record for channel c; the zone of a WARN channel is stored as 0 (R144). -/
def readLamp (s : State) (c : Fin 8) : List Word → Option LampConfig
  | [r, z, fl, rr, sf, ci, fc, tol] => do
    let role ← readLampRole r
    let zone ← if role = .warn then some 0 else readFin 4 z
    let current ← readOptFin 16 ci
    let _ ← need (s.currentAllowed current)
    let _ ← need (decide (role = s.lamps[c].config.role) || !s.warningNamed c)
    let record : LampConfig :=
      { role := role, zone := zone, fullLoad := fl.toNat, rampRate := clampWord 1 255 rr,
        floor := clampWord 0 255 sf, current := current, fullCurrent := clampWord 0 4095 fc,
        tolerance := clampWord 0 4095 tol }
    let budget := s.allocator.budget
    let _ ← need (decide (role = .general ∨
      (s.reserveWith c record ≤ budget.mains ∧ s.reserveWith c record ≤ budget.standby)))
    some record
  | _ => none

/-- A LAMP record as words. -/
def lampWords (c : LampConfig) : List Word :=
  [lampRoleWord c.role, word c.zone.val, word c.fullLoad, word c.rampRate, word c.floor, optFinWord c.current,
    word c.fullCurrent, word c.tolerance]

/-! ## BUDGET and REPORT (9.1, R155; 10.1, R163) -/

/-- A BUDGET record (R155). -/
def readBudget (s : State) : List Word → Option Budget
  | [m, sb, si, rt, ip] => do
    let supply ← readOptInput si
    let isolation ← readOptFin 8 ip
    let _ ← need (decide (s.reservePart ≤ m.toNat ∧ s.reservePart ≤ sb.toNat))
    some
      { mains := m.toNat, standby := sb.toNat, supply := supply, release := clampWord 10 600 rt,
        isolation := isolation }
  | _ => none

/-- A BUDGET record as words. -/
def budgetWords (b : Budget) : List Word :=
  [word b.mains, word b.standby, optFinWord b.supply, word b.release, optFinWord b.isolation]

/-- A REPORT record: bits 6 to 15 of its fourth word must be clear (R163). -/
def readReport : List Word → Option Report
  | [p, ft, lo, hi] => do
    let _ ← need (decide (hi.toNat < 64))
    some
      { period := clampWord 0 255 p, timeout := clampWord 50 2000 ft,
        enables := (hi.setWidth 6 ++ lo : BitVec 22) }
  | _ => none

/-- A REPORT record as words. -/
def reportWords (r : Report) : List Word :=
  [word r.period, word r.timeout, r.enables.extractLsb' 0 16, (r.enables.extractLsb' 16 6).setWidth 16]

/-- A GAIN record: one word, clamped to 2048 to 4095 (R39). -/
def readGain : List Word → Option Nat
  | [g] => some (clampWord 2048 4095 g)
  | _ => none

end Sys2Proof.Machine
end

