-- ==== Sys2Proof/Machine/Tables.lean ====
section
/-! DEFINITION. READ, ERASE and FIND, and the WRITE of each table with its own refusals and its effect (R26, R27 and
the owning chapters). -/

namespace Sys2Proof.Machine

/-- The tables by number (2.4). -/
inductive Table where
  | tag | action | scene | threshold | tracker | trackerHold | analog | digital | scan | pump | pumpGroup | gate
  | lamp | budget | report | gain
deriving DecidableEq, Repr

/-- The table that a number names (2.4). -/
def readTable (w : Word) : Option Table :=
  match w.toNat with
  | 0 => some .tag | 1 => some .action | 2 => some .scene | 3 => some .threshold | 4 => some .tracker
  | 5 => some .trackerHold | 6 => some .analog | 7 => some .digital | 8 => some .scan | 9 => some .pump
  | 10 => some .pumpGroup | 11 => some .gate | 12 => some .lamp | 13 => some .budget | 14 => some .report
  | 15 => some .gain | _ => none

/-- The number of a table (2.4). -/
def tableWord : Table → Word
  | .tag => 0 | .action => 1 | .scene => 2 | .threshold => 3 | .tracker => 4 | .trackerHold => 5 | .analog => 6
  | .digital => 7 | .scan => 8 | .pump => 9 | .pumpGroup => 10 | .gate => 11 | .lamp => 12 | .budget => 13
  | .report => 14 | .gain => 15

/-- The word ANY (R27). -/
def anyIndex : Word := 0xFFFF

/-! ## READ (R26) -/

/-- The record of a table's entry exactly as stored; `none` when the index is beyond its entries (R26). -/
def State.record (s : State) (table : Table) (index : Word) : Option (List Word) :=
  match table with
  | .tag => (readFin 16 index).map fun i => tagWords s.tags[i]
  | .action => (readFin 64 index).map fun e => actionWords s.actions[e]
  | .scene => (readFin 16 index).map fun n => sceneWords s.scenes[n]
  | .threshold => (readFin 4 index).map fun t => thresholdWords s.trackers[t].thresholds
  | .tracker => (readFin 4 index).map fun t => trackerWords s.trackers[t].config
  | .trackerHold => (readFin 4 index).map fun t => holdWords s.trackers[t].hold
  | .analog => (readFin 16 index).map fun i => analogWords s.analog[i].config
  | .digital => (readFin 16 index).map fun i => digitalWords s.digital[i].config
  | .scan => (readFin 1 index).map fun _ => scanWords s.converter.scanList
  | .pump => (readFin 4 index).map fun p => pumpWords s.pumps[p].config
  | .pumpGroup => (readFin 1 index).map fun _ => groupWords s.group.config
  | .gate => (readFin 2 index).map fun g => gateWords s.gates[g].config
  | .lamp => (readFin 8 index).map fun c => lampWords s.lamps[c].config
  | .budget => (readFin 1 index).map fun _ => budgetWords s.allocator.budget
  | .report => (readFin 1 index).map fun _ => reportWords s.report
  | .gain => (readFin 1 index).map fun _ => [word s.gain]

/-! ## The outcome of carrying a command out (R20) -/

/-- A command carried out with its reply data, refused with a reason, or, for CONVERT, left with its entry
reserved (R20, R23). -/
inductive Carried where
  | done (s : State) (data : List Word)
  | refused (reason : Status)
  | inFlight (s : State)

/-- A RANGE refusal when a reading fails (R20, R27). -/
def orRange {α : Type} (x : Option α) (f : α → Carried) : Carried :=
  match x with
  | none => .refused .range
  | some a => f a

/-- A WRITE carried out: the reply data is the index, then the record as stored (R27). -/
def written (index : Word) (record : List Word) (s : State) : Carried := .done s (index :: record)

/-! ## The writes, one for each table (R27) -/

/-- TAG: the entry governs cells from the next frame on (R10). -/
def writeTagTable (index : Word) (record : List Word) (s : State) : Carried :=
  orRange (readFin 16 index) fun i =>
  orRange (readTag record) fun e => written index (tagWords e) (s.putTag i e)

/-- Whether a record marked valid would share a key and a plan with a valid entry, the entry at the index it is
written to not counted (R85). A record whose plan set is empty, which R83 accepts, shares no plan with any entry (DEDUCED:
log entry 31). -/
def State.overlaps (s : State) (at? : Option (Fin 64)) (x : ActionEntry) : Bool :=
  x.valid && (List.finRange 64).any fun e =>
    let y := s.actions[e]
    decide (at? ≠ some e) && y.valid && decide (y.tracker = x.tracker) && decide (y.band = x.band) &&
      decide (y.edge = x.edge) && decide (y.plans &&& x.plans ≠ 0)

/-- The lowest-numbered invalid entry of the action table (R27, R85). -/
def State.freeAction (s : State) : Option (Fin 64) := (List.finRange 64).find? fun e => !s.actions[e].valid

/-- ACTION, at an index or at ANY: RANGE, then OVERLAP, then FULL; storing fires nothing (R27, R83, R85, R86). A
repeated WRITE to ANY is carried out as a new command (R169). -/
def writeActionTable (index : Word) (record : List Word) (s : State) : Carried :=
  if index = anyIndex then
    orRange (readAction record) fun x =>
      if s.overlaps none x then .refused .overlap
      else
        match s.freeAction with
        | none => .refused .full
        | some e => written (word e.val) (actionWords x) (s.putAction e x)
  else
    orRange (readFin 64 index) fun e =>
    orRange (readAction record) fun x =>
      if s.overlaps (some e) x then .refused .overlap else written index (actionWords x) (s.putAction e x)

/-- SCENE: the targets of the GENERAL channels whose zone follows the scene are recomputed (R146, R147). -/
def writeSceneTable (index : Word) (record : List Word) (s : State) : Carried :=
  orRange (readFin 16 index) fun n =>
  orRange (readScene record) fun v =>
    let stored := s.putScene n v
    written index (sceneWords v)
      (retargetWhere (fun l => decide (effectiveScene stored.demands.zones[l.zone] = n)) stored)

/-- THRESHOLD (R70). -/
def writeThresholdTable (index : Word) (record : List Word) (s : State) : Carried :=
  orRange (readFin 4 index) fun t =>
  orRange (readThresholds record) fun ths =>
    written index (thresholdWords ths) (trackerEvent t (Tracker.configureThresholds ths) s)

/-- TRACKER (R54, R56). -/
def writeTrackerTable (index : Word) (record : List Word) (s : State) : Carried :=
  orRange (readFin 4 index) fun t =>
  orRange (readTracker s record) fun c =>
    written index (trackerWords c) (trackerEvent t (Tracker.configure c) s)

/-- TRACKER_HOLD (R55, R56). -/
def writeHoldTable (index : Word) (record : List Word) (s : State) : Carried :=
  orRange (readFin 4 index) fun t =>
  orRange (readHold record) fun c =>
    written index (holdWords c) (trackerEvent t (Tracker.configureHold c) s)

/-- ANALOG: used by the next conversion of the input to complete (R41). -/
def writeAnalogTable (index : Word) (record : List Word) (s : State) : Carried :=
  orRange (readFin 16 index) fun i =>
  orRange (readAnalog s i record) fun c =>
    written index (analogWords c) (s.putAnalog i { s.analog[i] with config := c })

/-- DIGITAL: takes effect at the next tick; the filtered state is not changed by the write (R47). -/
def writeDigitalTable (index : Word) (record : List Word) (s : State) : Carried :=
  orRange (readFin 16 index) fun i =>
  orRange (readDigital i record) fun c =>
    written index (digitalWords c) (s.putDigital i { s.digital[i] with config := c })

/-- SCAN: while CONVERTING the restart flag is set; when IDLE the scan starts at once from entry 0 (R36). -/
def writeScanTable (index : Word) (record : List Word) (s : State) : Carried :=
  orRange (readFin 1 index) fun _ =>
  orRange (readScan record) fun l =>
    let c := s.converter
    match c.inFlight with
    | some _ => written index (scanWords l) { s with converter := { c with scanList := l, restart := true } }
    | none =>
      written index (scanWords l) (startScan { s with converter := { c with scanList := l, position := 0 } })

/-- The state an accepted PUMP write gives a pump by its available field, with its cause (R105). -/
def pumpWriteChange (state : PumpState) (available faulted : Bool) : Option (PumpState × PumpCause) :=
  match state, available with
  | .disabled, true => if faulted then some (.locked, .tripped) else some (.idle, .config)
  | .idle, false => some (.disabled, .config)
  | .idle, true => if faulted then some (.locked, .tripped) else none
  | .locked, false => some (.disabled, .config)
  | .disabled, false | .locked, true => none
  | .starting, _ | .running, _ | .runOn, _ => none

/-- PUMP: RANGE, then STATE while the pump runs; the state follows the available field, and a group decision ends
the write (R104, R105, R115). -/
def writePumpTable (index : Word) (record : List Word) (s : State) : Carried :=
  orRange (readFin 4 index) fun p =>
  orRange (readPump record) fun c =>
    if s.pumps[p].runOutput then .refused .state
    else
      let stored := s.putPump p { s.pumps[p] with config := c }
      let changed :=
        match pumpWriteChange s.pumps[p].state c.available (s.inputActive c.fault) with
        | none => stored
        | some (state, cause) => changePump p state cause stored
      written index (pumpWords c) (groupDecision changed)

/-- PUMP_GROUP: dry protection evaluated against the new record, then the group decision (R106). -/
def writeGroupTable (index : Word) (record : List Word) (s : State) : Carried :=
  orRange (readFin 1 index) fun _ =>
  orRange (readGroup record) fun c =>
    written index (groupWords c) (sumpNotice { s with group := { s.group with config := c } })

/-- The state that an accepted GATE write gives a gate, with its detail (R128). -/
def gateWriteChange (state limits : GateState) (present : Bool) : Option (GateState × GateDetail) :=
  let taken := (limits, if limits = .fault then GateDetail.limits else GateDetail.config)
  match state, present with
  | .absent, false => none
  | .absent, true => some taken
  | .opened, false | .closed, false | .stopped, false | .fault, false => some (.absent, .config)
  | .opened, true | .closed, true | .stopped, true => if limits = state then none else some taken
  | .fault, true => none
  | .warning, _ | .closing, _ | .opening, _ | .reversing, _ => none

/-- GATE: RANGE, then STATE while the gate warns or moves; the record stored and the state taken; the Lamp Controller told
once of the new warning set under the state the write leaves, so that a channel is forced only if that state forces;
then the standing condition (R127, R128, R132, R148). -/
def writeGateTable (index : Word) (record : List Word) (s : State) : Carried :=
  orRange (readFin 2 index) fun g =>
  orRange (readGate s record) fun c =>
    match s.gates[g].state with
    | .warning | .closing | .reversing | .opening => .refused .state
    | .absent | .opened | .closed | .stopped | .fault =>
      let stored := s.putGate g { s.gates[g] with config := c }
      let changed :=
        match gateWriteChange s.gates[g].state (stored.limitState g) c.present with
        | none => forceLamps g s.gates[g].state.forces c.warning stored
        | some (state, detail) => changeGate g state detail stored
      written index (gateWords c) (standing g .demand changed)

/-- LAMP: RANGE, then STATE while the output is not 0 or a rise of the reserve is not granted; the check run is
cleared and the target recomputed (R144, R145, R153). The measured current of the old record is cleared (R153, word 10);
DESIGN CHOICE: the expected current of word 11 is cleared with it (log entry 30). -/
def writeLampTable (index : Word) (record : List Word) (s : State) : Carried :=
  orRange (readFin 8 index) fun c =>
  orRange (readLamp s c record) fun k =>
    let l := s.lamps[c]
    let before := reserveLoad l.config
    let after := reserveLoad k
    if l.output ≠ 0 then .refused .state
    else if before < after ∧ grantReserve before after s = false then .refused .state
    else
      let stored :=
        { l with config := k, verdict := .none, count := 0, measured := none, expected := none }
      written index (lampWords k) (s.putLamp c { stored with target := s.targetOf c stored })

/-- BUDGET: the record stored, the supply mode taken afresh, the deficit procedure if committed load exceeds the
active budget; the moment kept, after which alone the release timer may expire (R155). -/
def writeBudgetTable (index : Word) (record : List Word) (s : State) : Carried :=
  orRange (readFin 1 index) fun _ =>
  orRange (readBudget s record) fun b =>
    written index (budgetWords b)
      (retakeSupply { s with allocator := { s.allocator with budget := b, writtenAt := some s.now } })

/-- The sources that a REPORT record leaves disabled cleared, and with INPUT the changed set (R163). -/
def clearDisabled (s : State) : State :=
  let cleared := (List.finRange 22).foldl (fun s n => if s.enabled n then s else clearEvent n s) s
  if cleared.enabled inputSource then cleared else emptyChangedSet cleared

/-- REPORT: disabled sources cleared, and a beacon made due (R163). -/
def writeReportTable (index : Word) (record : List Word) (s : State) : Carried :=
  orRange (readFin 1 index) fun _ =>
  orRange (readReport record) fun r =>
    let cleared := clearDisabled { s with report := r }
    written index (reportWords r) { cleared with beacon := { cleared.beacon with due := true } }

/-- GAIN: in use from the conversion in flight on (R39). -/
def writeGainTable (index : Word) (record : List Word) (s : State) : Carried :=
  orRange (readFin 1 index) fun _ =>
  orRange (readGain record) fun g => written index [word g] { s with gain := g }

/-- WRITE to a table (R27). An index of ANY is beyond the entries of every table but ACTION. -/
def writeTable (table : Table) (index : Word) (record : List Word) (s : State) : Carried :=
  match table with
  | .tag => writeTagTable index record s
  | .action => writeActionTable index record s
  | .scene => writeSceneTable index record s
  | .threshold => writeThresholdTable index record s
  | .tracker => writeTrackerTable index record s
  | .trackerHold => writeHoldTable index record s
  | .analog => writeAnalogTable index record s
  | .digital => writeDigitalTable index record s
  | .scan => writeScanTable index record s
  | .pump => writePumpTable index record s
  | .pumpGroup => writeGroupTable index record s
  | .gate => writeGateTable index record s
  | .lamp => writeLampTable index record s
  | .budget => writeBudgetTable index record s
  | .report => writeReportTable index record s
  | .gain => writeGainTable index record s

/-! ## ERASE and FIND (R26) -/

/-- ERASE: TAG and ACTION entries made invalid, their other fields kept (R10, R26, R85). -/
def eraseTable (table : Option Table) (index : Word) (s : State) : Carried :=
  match table with
  | some .tag => orRange (readFin 16 index) fun i => .done (s.putTag i { s.tags[i] with valid := false }) [index]
  | some .action =>
    orRange (readFin 64 index) fun e => .done (s.putAction e { s.actions[e] with valid := false }) [index]
  | _ => .refused .range

/-- FIND: the index of the valid entry with the key whose plan set holds the plan, or 0xFFFF (R26). -/
def findAction (tracker band edge plan : Word) (s : State) : Carried :=
  orRange (readFin 4 tracker) fun t =>
  orRange (readBand band) fun b =>
  orRange (readEdge edge) fun e =>
  orRange (readFin 8 plan) fun p => .done s [optFinWord (s.findEntry t b e p)]

end Sys2Proof.Machine
end

