-- ==== Sys2Proof/Machine/StatusRecords.lean ====
section
/-! DEFINITION. The state records that STATUS returns (R28 and the owning chapters), read at the moment the command is
carried out. -/

namespace Sys2Proof.Machine

/-- A demand record as six words (R102). -/
def demandWords {α : Type} (code : α → Word) (effective : DemandRecord α → α) (r : DemandRecord α) : List Word :=
  [code r.automatic, optFinWord r.entry, flagWord r.supervisory.isSome,
    match r.supervisory with
    | none => 0
    | some v => code v.value,
    match r.supervisory with
    | none => 0
    | some v => word v.hold,
    code (effective r)]

/-- The TRACKER record of STATUS: twenty words (R78). DESIGN CHOICE: the manual says neither that word 18 saturates nor that
it wraps, and under an unlimited timeout k can pass 65535; the word is then k modulo 65536 (log entry 32). -/
def trackerStatus (s : State) (t : Fin 4) : List Word :=
  let x := s.trackers[t]
  let src := s.sourcesOf t
  let a : BitVec 32 := BitVec.ofNat 32 x.accumulator
  [trackerStateCode x.state, phaseCode x, activeCode x.active, word x.estimate] ++ words32 a ++
    [signedWord x.offset, signedWord x.rate, flagWord x.rateValid, bandWord x.band, bandWord x.effective,
      flagWord x.surge, flagWord (s.inputActive x.hold.floatInput), word x.loss, flagWord x.alarm,
      if x.state = .acquire then word (timerMs s.now x.lockFrom) else 0, word x.unlockRun,
      if x.state = .holdover then word x.holdSeconds else 0, if x.state = .holdover then word x.holdLevel else 0,
      flagWord (x.valid src .primary) + (if x.valid src .secondary then 2 else 0)]

/-- The PUMP record of STATUS: eleven words (R124). -/
def pumpStatus (s : State) (p : Fin 4) : List Word :=
  let x := s.pumps[p]
  [pumpStateCode x.state,
    match x.cause with
    | none => 0xFFFF
    | some c => pumpCauseCode c,
    flagWord x.runOutput, flagWord (s.filtered x.config.feedback), flagWord (s.inputActive x.config.fault)] ++
    words32 x.runSeconds ++
    [word x.startLog.length,
      match x.startLog with
      | [] => 0
      | e :: _ => word ((e + 3601 - s.time.seconds).toNat),
      match x.state with
      | .starting => word (timerMs s.now x.confirmFrom)
      | .runOn => word (timerMs s.now x.runOnFrom)
      | .disabled | .idle | .running | .locked => 0,
      match x.state, x.runStart with
      | .running, some r => word (sat16 (s.time.seconds - r).toNat)
      | .runOn, some r => word (sat16 (s.time.seconds - r).toNat)
      | _, _ => 0]

/-- The PUMP_GROUP record of STATUS: twelve words (R125). The last start is kept to the millisecond; DESIGN CHOICE: word 5 is
the floor of the whole seconds since it (log entry 29). -/
def groupStatus (s : State) : List Word :=
  [word s.activeCount, unmetCode s.group.reason, flagWord s.group.waiting, flagWord s.dryInForce,
    word (sat16 ((s.now - s.group.lastStart) / 1000)),
    word (s.pumpsWhere fun p => decide (p.state = .runOn)).length] ++
    demandWords word effectivePumps s.demands.pumps

/-- The GATE record of STATUS: eighteen words (R142). -/
def gateStatus (s : State) (g : Fin 2) : List Word :=
  let x := s.gates[g]
  [gateStateCode x.state,
    match x.detail with
    | none => 0xFFFF
    | some d => gateDetailCode d,
    flagWord x.openDrive, flagWord x.closeDrive, flagWord (s.atOpen g), flagWord (s.atClosed g),
    flagWord (s.obstructed g), word x.retry,
    if x.state = .warning then word (x.leadInForce.getD 0) else 0,
    match x.state with
    | .warning => word (timerMs s.now x.leadFrom)
    | .closing | .opening => word (timerMs s.now x.travelFrom)
    | .reversing => word (timerMs s.now x.reverseFrom)
    | .absent | .opened | .closed | .stopped | .fault => 0,
    flagWord x.held, flagWord (s.reopenHolds g)] ++
    demandWords gateDemandCode effectiveGate s.demands.gates[g]

/-- The verdicts of R153: 0 none, 1 pass, 2 fail. -/
def verdictCode : Verdict → Word
  | .none => 0 | .pass => 1 | .fail => 2

/-- The LAMP record of STATUS: eighteen words (R153). -/
def lampStatus (s : State) (c : Fin 8) : List Word :=
  let l := s.lamps[c]
  [lampRoleWord l.config.role, word l.config.zone.val, word l.output, word l.target, flagWord l.limited,
    l.forcing.setWidth 16, flagWord l.fault, verdictCode l.verdict, word l.count, optWord l.measured,
    optWord l.expected, word (sat16 (s.now - l.lastChange))] ++
    match l.config.role with
    | .general => demandWords (fun n => word n.val) effectiveScene s.demands.zones[l.config.zone]
    | .warn => List.replicate 6 0xFFFF

/-- The set of GENERAL channels whose LIMITED mark is set (R162). -/
def State.limitedWord (s : State) : Word :=
  setWord 8 fun n => s.lamps.toList[n]?.any fun l => decide (l.config.role = .general) && l.limited

/-- The ALLOCATOR record of STATUS: eleven words (R162). -/
def allocatorStatus (s : State) : List Word :=
  [modeCode s.allocator.mode, word s.activeBudget, word s.committed, word s.reservePart, word s.pumpPart,
    word s.generalPart, word (s.activeBudget - s.committed), word s.allocator.stage,
    match s.allocator.releaseFrom with
    | none => 0
    | some t => word ((s.now - t) / 1000),
    flagWord s.group.waiting, s.limitedWord]

/-- The LOOP record of STATUS (R9). The loop state is 0 UP, 1 LOST (log entry 17). The station base is that of entry 0 as it
stands (log entry 28). -/
def loopStatus (s : State) : List Word :=
  [match s.loop.state with
    | .up => 0
    | .lost => 1,
    word s.report.timeout,
    match s.loop.lastGood with
    | none => 65535
    | some t => word (sat16 (s.now - t)),
    word s.loop.damaged, word s.loop.discarded, s.stationBase]

/-- The causes of R45. -/
def causeCode : AnalogCause → Word
  | .none => 0 | .overRange => 1 | .wireBreak => 2 | .noRole => 3

/-- The state of the one-shot slot and the input of its request (R45). -/
def slotWords : OneShot → List Word
  | .empty => [0, 0xFFFF]
  | .waiting i _ => [1, word i.val]
  | .inFlight i _ => [2, word i.val]

/-- The record of an analog input in STATUS: ten words (R45). -/
def analogStatus (s : State) (i : Fin 16) : List Word :=
  let a := s.analog[i]
  [roleWord a.config.role, word a.raw, word a.corrected, word a.value, qualityCode a.quality, causeCode a.cause,
    match a.time with
    | none => 65535
    | some t => word (sat16 (s.now - t)),
    word s.converter.position] ++ slotWords s.converter.slot

/-- The record of a digital input in STATUS: seven words, the run in the low byte of the last and the membership of
the changed set in its high byte (R50). -/
def digitalStatus (s : State) (i : Fin 16) : List Word :=
  let d := s.digital[i]
  digitalWords d.config ++
    [flagWord d.level, flagWord d.raw, flagWord d.filtered,
      bytesWord (if d.changed then 1 else 0) (BitVec.ofNat 8 (min d.run 255))]

/-- The STATION record: straps, factory gain, revision code, seconds count, P, maintenance key (R28). -/
def stationStatus (s : State) : List Word :=
  [s.loop.straps.setWidth 16, word s.factory.gain, s.factory.revision] ++ words32 s.time.seconds ++
    [word s.plan.val, flagWord s.maintenanceKey]

/-- The state record of one item of a block; `none` for an unknown block or an index beyond its range (R28). -/
def statusRecord (block index : Word) (s : State) : Option (List Word) :=
  match block.toNat with
  | 0 => (readFin 4 index).map (trackerStatus s)
  | 1 => (readFin 4 index).map (pumpStatus s)
  | 2 => (readFin 1 index).map fun _ => groupStatus s
  | 3 => (readFin 2 index).map (gateStatus s)
  | 4 => (readFin 8 index).map (lampStatus s)
  | 5 => (readFin 1 index).map fun _ => allocatorStatus s
  | 6 => (readFin 1 index).map fun _ => loopStatus s
  | 7 =>
    match readFin 16 index, readFin 16 (index - 16) with
    | some i, _ => some (analogStatus s i)
    | none, some i => some (digitalStatus s i)
    | none, none => none
  | 8 => (readFin 1 index).map fun _ => stationStatus s
  | _ => none

end Sys2Proof.Machine
end

