-- ==== Sys2Proof/Machine/Commands.lean ====
section
/-! DEFINITION. The Command Unit (chapter 2): privilege, operand counts, what each command does, and the taking of an
offered command with its reply (R18 to R32). -/

namespace Sys2Proof.Machine

/-! ## The operands (R20, R21) -/

/-- The commands and writes that need maintenance privilege (R21). A cell too short to hold the table and index does
not need it. -/
def needsMaintenance (name : CommandName) (payload : List Word) : Bool :=
  match name, payload with
  | .forceLevel, _ | .unforce, _ | .preset, _ => true
  | .write, table :: index :: _ => decide (readTable table = some .tag ∧ index = 0 ∨ readTable table = some .gain)
  | .erase, table :: index :: _ => decide (readTable table = some .tag ∧ index = 0)
  | .write, _ | .erase, _ => false
  | .read, _ | .find, _ | .status, _ | .setPlan, _ | .demand, _ | .release, _ | .gateStop, _
  | .clearFault, _ | .clearAlarm, _ | .convert, _ | .lineReset, _ => false

/-- Two words as a 32-bit value, high word first (00 "Wire format"). -/
def value32 (high low : Word) : BitVec 32 := high ++ low

/-! ## Demands and releases (R29, R96, R97) -/

/-- DEMAND: an unknown target, a gate value above 2 or a scene above 15 is RANGE; a pump value is clamped to 4. The
reply data is the target, the value as stored, and the hold (R29, R96). -/
def carryDemand (target value hold : Word) (s : State) : Carried :=
  match target.toNat with
  | 0 =>
    let n := min value.toNat 4
    .done (demandPumps n hold.toNat s) [target, word n, hold]
  | 1 => orRange (readGateDemand value) fun v => .done (demandGate 0 v hold.toNat s) [target, value, hold]
  | 2 => orRange (readGateDemand value) fun v => .done (demandGate 1 v hold.toNat s) [target, value, hold]
  | n => orRange (readFin 4 (word (n - 3))) fun z => orRange (readFin 16 value) fun v =>
      .done (demandZone z v hold.toNat s) [target, value, hold]

/-- The demand record that a target number names (R29). -/
def readTarget (w : Word) : Option DemandTarget :=
  match w.toNat with
  | 0 => some .pumps
  | 1 => some (.gate 0)
  | 2 => some (.gate 1)
  | n => (readFin 4 (word (n - 3))).map .zone

/-- RELEASE: the supervisory part removed, with empty reply data (R29, R97). -/
def carryRelease (target : Word) (s : State) : Carried :=
  orRange (readTarget target) fun d => .done (releaseDemand d s) []

/-! ## Equipment (R30) -/

/-- GATE_STOP: a warning or moving gate goes to STOPPED with detail STOP, its retry count kept; any other state is
left (R140). -/
def stopGate (g : Fin 2) (s : State) : State :=
  match s.gates[g].state with
  | .warning | .closing | .reversing | .opening => changeGate g .stopped .stop s
  | .absent | .opened | .closed | .stopped | .fault => s

/-- CLEAR_FAULT of a pump: a LOCKED pump that is available with no active fault input becomes IDLE with cause
CLEARED, and the group decision follows; one that is not is refused with STATE; any other pump is left (R112). -/
def clearPumpFault (p : Fin 4) (s : State) : Carried :=
  let x := s.pumps[p]
  match x.state with
  | .locked =>
    if s.inputActive x.config.fault = true ∨ x.config.available = false then .refused .state
    else .done (groupDecision (changePump p .idle .cleared s)) []
  | .disabled | .idle | .starting | .running | .runOn => .done s []

/-- CLEAR_FAULT of a gate: a gate in FAULT with at most one limit active takes its state from its limits with detail
CLEARED and retry count 0, then its standing condition; with both active it is refused with STATE; any other gate is
left (R139). -/
def clearGateFault (g : Fin 2) (s : State) : Carried :=
  match s.gates[g].state with
  | .fault =>
    match s.limitState g with
    | .fault => .refused .state
    | taken => .done (standing g .demand (changeGate g taken .cleared (setRetry g 0 s))) []
  | .absent | .opened | .warning | .closing | .closed | .opening | .reversing | .stopped => .done s []

/-- CLEAR_FAULT by kind: 0 a pump, 1 a gate, 2 a lamp channel (R30). -/
def carryClearFault (kind index : Word) (s : State) : Carried :=
  match kind.toNat with
  | 0 => orRange (readFin 4 index) fun p => clearPumpFault p s
  | 1 => orRange (readFin 2 index) fun g => clearGateFault g s
  | 2 => orRange (readFin 8 index) fun c => .done (clearLampFault c s) []
  | _ => .refused .range

/-! ## CONVERT (R31, R37) -/

/-- CONVERT: an occupied slot is BUSY; an IDLE converter starts the request's conversion at once, a CONVERTING one
leaves it waiting. The reply entry stays reserved (R37). -/
def carryConvert (reply : ReplyTo) (input : Word) (s : State) : Carried :=
  orRange (readFin 16 input) fun i =>
    match s.converter.slot, s.converter.inFlight with
    | .empty, none =>
      .inFlight (startConversion i .oneShot { s with converter := { s.converter with slot := .inFlight i reply } })
    | .empty, some _ => .inFlight { s with converter := { s.converter with slot := .waiting i reply } }
    | .waiting _ _, _ | .inFlight _ _, _ => .refused .busy

/-! ## Maintenance (R32) -/

/-- FORCE_LEVEL: the level clamped to 16383, which is the reply data (R32, R75). -/
def carryForce (tracker level : Word) (s : State) : Carried :=
  orRange (readFin 4 tracker) fun t =>
    let n := min level.toNat 16383
    .done (trackerEvent t (Tracker.force n) s) [word n]

/-- UNFORCE: a tracker not in FORCED is refused with STATE (R32, R75). -/
def carryUnforce (tracker : Word) (s : State) : Carried :=
  orRange (readFin 4 tracker) fun t =>
    if s.trackers[t].state = .forced then .done (trackerEvent t Tracker.unforce s) [] else .refused .state

/-- PRESET: kind 0 sets a pump's run seconds, kind 1 a tracker's loss counter, clamped to 15, with its alarm flag
re-evaluated. The reply data is the two words of the value as stored (R32, R77, R123). -/
def carryPreset (kind index high low : Word) (s : State) : Carried :=
  match kind.toNat with
  | 0 => orRange (readFin 4 index) fun p =>
      .done (s.putPump p { s.pumps[p] with runSeconds := value32 high low }) [high, low]
  | 1 => orRange (readFin 4 index) fun t =>
      let n := min (value32 high low).toNat 15
      .done (trackerEvent t (Tracker.presetLoss n) s) [0, word n]
  | _ => .refused .range

/-! ## Carrying a command out (R20, R26 to R32) -/

/-- READ: the index, then the record as stored (R26). -/
def carryRead (table index : Word) (s : State) : Carried :=
  orRange (readTable table) fun t => orRange (s.record t index) fun record => .done s (index :: record)

/-- WRITE: an unknown table is RANGE (R27). -/
def carryWrite (table index : Word) (record : List Word) (s : State) : Carried :=
  orRange (readTable table) fun t => writeTable t index record s

/-- STATUS: the state record of one item (R28). -/
def carryStatus (block index : Word) (s : State) : Carried :=
  orRange (statusRecord block index s) fun record => .done s record

/-- SET_PLAN: the cascade toward the plan, which is the reply data (R29, R92). -/
def carrySetPlan (plan : Word) (s : State) : Carried :=
  orRange (readFin 8 plan) fun p => .done (changePlan .setPlan p s) [plan]

/-- A command of no operand words; any other payload is RANGE (R20, step 4). -/
def operands0 (payload : List Word) (f : Carried) : Carried :=
  match payload with
  | [] => f
  | _ => .refused .range

/-- A command of one operand word (R20, step 4). -/
def operands1 (payload : List Word) (f : Word → Carried) : Carried :=
  match payload with
  | [a] => f a
  | _ => .refused .range

/-- A command of two operand words (R20, step 4). -/
def operands2 (payload : List Word) (f : Word → Word → Carried) : Carried :=
  match payload with
  | [a, b] => f a b
  | _ => .refused .range

/-- A command of three operand words (R20, step 4). -/
def operands3 (payload : List Word) (f : Word → Word → Word → Carried) : Carried :=
  match payload with
  | [a, b, c] => f a b c
  | _ => .refused .range

/-- A command of four operand words (R20, step 4). -/
def operands4 (payload : List Word) (f : Word → Word → Word → Word → Carried) : Carried :=
  match payload with
  | [a, b, c, d] => f a b c d
  | _ => .refused .range

/-- WRITE: at least the table and index words (R20, step 4). -/
def operandsWrite (payload : List Word) (f : Word → Word → List Word → Carried) : Carried :=
  match payload with
  | a :: b :: record => f a b record
  | _ => .refused .range

/-- A checked command carried out. A payload that is not exactly the operand words the command takes is RANGE
(R20, step 4). -/
def carryOut (name : CommandName) (reply : ReplyTo) (payload : List Word) (s : State) : Carried :=
  match name with
  | .read => operands2 payload fun table index => carryRead table index s
  | .write => operandsWrite payload fun table index record => carryWrite table index record s
  | .erase => operands2 payload fun table index => eraseTable (readTable table) index s
  | .find => operands4 payload fun tracker band edge plan => findAction tracker band edge plan s
  | .status => operands2 payload fun block index => carryStatus block index s
  | .setPlan => operands1 payload fun plan => carrySetPlan plan s
  | .demand => operands3 payload fun target value hold => carryDemand target value hold s
  | .release => operands1 payload fun target => carryRelease target s
  | .gateStop => operands1 payload fun gate => orRange (readFin 2 gate) fun g => .done (stopGate g s) []
  | .clearFault => operands2 payload fun kind index => carryClearFault kind index s
  | .clearAlarm => operands1 payload fun tracker =>
      orRange (readFin 4 tracker) fun t => .done (trackerEvent t Tracker.clearAlarm s) []
  | .convert => operands1 payload fun input => carryConvert reply input s
  | .lineReset => operands0 payload (.done (lineReset s) [])
  | .forceLevel => operands2 payload fun tracker level => carryForce tracker level s
  | .unforce => operands1 payload fun tracker => carryUnforce tracker s
  | .preset => operands4 payload fun kind index high low => carryPreset kind index high low s

/-! ## Checking (R20) -/

/-- What the Reply Queue entry of a command cell records (R18). -/
def replyTo (h : CellHeader) : ReplyTo := { tag := h.tag, transaction := h.transaction, code := h.code }

/-- The checks of R20 in their order, then the command itself. `name` is the command that the cell's code selects. -/
def checkAndCarry (name : Option CommandName) (h : CellHeader) (payload : List Word) (s : State) : Carried :=
  if h.transaction = 0 then .refused .range
  else
    match name with
    | none => .refused .unknown
    | some n =>
      if h.maintenance = true ∧ s.maintenanceKey = false then .refused .privilege
      else if needsMaintenance n payload = true ∧ h.maintenance = false then .refused .privilege
      else carryOut n (replyTo h) payload s

/-! ## Taking an offered command (R18, R19) -/

/-- The entries of the Reply Queue, reserved and completed alike (R23). -/
def ReplyQueue.size (q : ReplyQueue) : Nat := q.reserved.length + q.completed.length

/-- A command is taken while queue-full seen is clear and the Reply Queue holds fewer than 8 entries (R18). -/
def State.canTake (s : State) : Bool := !s.unit.queueFullSeen && decide (s.replies.size < 8)

/-- The Reply Queue entry that a taken command reserves (R18). -/
def reserveReply (reply : ReplyTo) (s : State) : State :=
  { s with replies := { s.replies with reserved := s.replies.reserved ++ [reply] } }

/-- The entry reserved last completed: it leaves the reserved entries, if a line reset has not removed it already, and
its cell joins the completed ones (R23, R24). -/
def completeLast (reply : ReplyTo) (status : Status) (data : List Word) (s : State) : State :=
  { s with
    replies :=
      { reserved := s.replies.reserved.dropLast
        completed := s.replies.completed ++ [replyCell reply status data] } }

/-- The outcome of a command answered: every command but CONVERT completes at once, and a refusal sets refusal seen
(R19, R20, R23). -/
def answer (reply : ReplyTo) (s : State) : Carried → State
  | .done t data => completeLast reply .done data t
  | .inFlight t => t
  | .refused reason => completeLast reply reason [] { s with unit := { s.unit with refusalSeen := true } }

/-- A taken command: cancelled after a refusal in the same frame, otherwise checked and carried out (R19, R20). -/
def takeCommand (name : Option CommandName) (h : CellHeader) (payload : List Word) (s : State) : State :=
  let reserved := reserveReply (replyTo h) s
  if s.unit.refusalSeen then completeLast (replyTo h) .cancelled [] reserved
  else answer (replyTo h) reserved (checkAndCarry name h payload reserved)

/-- A command cell offered to the Command Unit: the state after it (R18). A command that is not taken leaves
queue-full seen set and nothing else. -/
def offer (name : Option CommandName) (h : CellHeader) (payload : List Word) (s : State) : State :=
  if s.canTake then takeCommand name h payload s
  else { s with unit := { s.unit with queueFullSeen := true } }

end Sys2Proof.Machine
end

