-- ==== Sys2Proof/Machine/CommandRows.lean ====
section
/-! DEFINITION. The commands of the table that arrive in COMMAND cells, each offered to the Command Unit as a cell of
the frame being worked through (R18; log entry 4). A row whose name fixes the table or the kind supplies that operand
word. -/

namespace Sys2Proof.Machine

/-! ## The frame that carries a command (R7, R8) -/

/-- The LOOP event of the acceptance that brings the loop UP: the outage in whole seconds and the two counts
(R8, R165). -/
def loopUpEvent (s : State) : State :=
  raise loopSource [word (sat16 ((s.now - s.loop.lostAt) / 1000)), word s.loop.damaged, word s.loop.discarded] s

/-- The acceptance of a good frame, before its cells: the frame timeout restarted and the loop brought UP, with its event
if it was LOST (R7, R8); the frame command state cleared (R19); and the station base under which this frame will leave
taken from entry 0, so that a write the frame carries governs the later departures alone (R12). -/
def beginAcceptance (s : State) : State :=
  let up :=
    { s with
      loop := { s.loop with state := .up, timerFrom := some s.now, lastGood := some s.now, tailBase := s.stationBase }
      unit := { queueFullSeen := false, refusalSeen := false } }
  if s.loop.state = .lost then loopUpEvent up else up

/-- A command row, one cell offered to the Command Unit. While the loop is UP it is a cell of the frame being worked
through. While the loop is LOST no such frame exists: the row is the first cell of a good frame, whose acceptance brings
the loop UP before the command is carried out (R7, R8, R96; log entry 4). -/
def offerRow (name : CommandName) (h : CellHeader) (payload : List Word) (s : State) : Result :=
  .next (offer (some name) h payload (if s.loop.state = .lost then beginAcceptance s else s))

/-! ## Commands of one form -/

/-- READ (R26). -/
def execRead (h : CellHeader) (ops : List Word) (s : State) : Result := offerRow .read h ops s
/-- FIND (R26). -/
def execFind (h : CellHeader) (ops : List Word) (s : State) : Result := offerRow .find h ops s
/-- STATUS (R28). -/
def execStatus (h : CellHeader) (ops : List Word) (s : State) : Result := offerRow .status h ops s
/-- SET_PLAN (R29, R92). -/
def execSetPlan (h : CellHeader) (ops : List Word) (s : State) : Result := offerRow .setPlan h ops s
/-- DEMAND (R29, R96). -/
def execDemand (h : CellHeader) (ops : List Word) (s : State) : Result := offerRow .demand h ops s
/-- RELEASE (R29, R97). -/
def execRelease (h : CellHeader) (ops : List Word) (s : State) : Result := offerRow .release h ops s
/-- GATE_STOP (R30, R140). -/
def execGateStop (h : CellHeader) (ops : List Word) (s : State) : Result := offerRow .gateStop h ops s
/-- CLEAR_ALARM (R30, R77). -/
def execClearAlarm (h : CellHeader) (ops : List Word) (s : State) : Result :=
  offerRow .clearAlarm h ops s
/-- CONVERT (R31, R37). -/
def execConvert (h : CellHeader) (ops : List Word) (s : State) : Result := offerRow .convert h ops s
/-- LINE_RESET (R24, R31). -/
def execLineReset (h : CellHeader) (ops : List Word) (s : State) : Result :=
  offerRow .lineReset h ops s
/-- FORCE_LEVEL (R32, R75). -/
def execForceLevel (h : CellHeader) (ops : List Word) (s : State) : Result :=
  offerRow .forceLevel h ops s
/-- UNFORCE (R32, R75). -/
def execUnforce (h : CellHeader) (ops : List Word) (s : State) : Result := offerRow .unforce h ops s

/-! ## ERASE (R26) -/

/-- ERASE of a TAG entry (R10). -/
def execEraseTag (h : CellHeader) (ops : List Word) (s : State) : Result :=
  offerRow .erase h (tableWord .tag :: ops) s
/-- ERASE of an ACTION entry (R85). -/
def execEraseAction (h : CellHeader) (ops : List Word) (s : State) : Result :=
  offerRow .erase h (tableWord .action :: ops) s

/-! ## WRITE (R27) -/

/-- A WRITE to a table (R27). -/
def offerWrite (table : Table) (h : CellHeader) (ops : List Word) (s : State) : Result :=
  offerRow .write h (tableWord table :: ops) s

/-- WRITE to the TAG table (R10). -/
def execWriteTag (h : CellHeader) (ops : List Word) (s : State) : Result := offerWrite .tag h ops s
/-- WRITE to the ACTION table (R85). -/
def execWriteAction (h : CellHeader) (ops : List Word) (s : State) : Result := offerWrite .action h ops s
/-- WRITE to the SCENE table (R146). -/
def execWriteScene (h : CellHeader) (ops : List Word) (s : State) : Result := offerWrite .scene h ops s
/-- WRITE to the THRESHOLD table (R70). -/
def execWriteThreshold (h : CellHeader) (ops : List Word) (s : State) : Result := offerWrite .threshold h ops s
/-- WRITE to the TRACKER table (R56). -/
def execWriteTracker (h : CellHeader) (ops : List Word) (s : State) : Result := offerWrite .tracker h ops s
/-- WRITE to the TRACKER_HOLD table (R56). -/
def execWriteTrackerHold (h : CellHeader) (ops : List Word) (s : State) : Result := offerWrite .trackerHold h ops s
/-- WRITE to the ANALOG table (R41). -/
def execWriteAnalog (h : CellHeader) (ops : List Word) (s : State) : Result := offerWrite .analog h ops s
/-- WRITE to the DIGITAL table (R47). -/
def execWriteDigital (h : CellHeader) (ops : List Word) (s : State) : Result := offerWrite .digital h ops s
/-- WRITE to the SCAN table (R36). -/
def execWriteScan (h : CellHeader) (ops : List Word) (s : State) : Result := offerWrite .scan h ops s
/-- WRITE to the PUMP table (R105). -/
def execWritePump (h : CellHeader) (ops : List Word) (s : State) : Result := offerWrite .pump h ops s
/-- WRITE to the PUMP_GROUP table (R106). -/
def execWritePumpGroup (h : CellHeader) (ops : List Word) (s : State) : Result := offerWrite .pumpGroup h ops s
/-- WRITE to the GATE table (R128). -/
def execWriteGate (h : CellHeader) (ops : List Word) (s : State) : Result := offerWrite .gate h ops s
/-- WRITE to the LAMP table (R145). -/
def execWriteLamp (h : CellHeader) (ops : List Word) (s : State) : Result := offerWrite .lamp h ops s
/-- WRITE to the BUDGET table (R155). -/
def execWriteBudget (h : CellHeader) (ops : List Word) (s : State) : Result := offerWrite .budget h ops s
/-- WRITE to the REPORT table (R163). -/
def execWriteReport (h : CellHeader) (ops : List Word) (s : State) : Result := offerWrite .report h ops s
/-- WRITE to the GAIN table (R39). -/
def execWriteGain (h : CellHeader) (ops : List Word) (s : State) : Result := offerWrite .gain h ops s

/-! ## CLEAR_FAULT and PRESET by kind (R30, R32) -/

/-- CLEAR_FAULT of a pump, kind 0 (R112). -/
def execClearFaultPump (h : CellHeader) (ops : List Word) (s : State) : Result :=
  offerRow .clearFault h (0 :: ops) s
/-- CLEAR_FAULT of a gate, kind 1 (R139). -/
def execClearFaultGate (h : CellHeader) (ops : List Word) (s : State) : Result :=
  offerRow .clearFault h (1 :: ops) s
/-- CLEAR_FAULT of a lamp channel, kind 2 (R152). -/
def execClearFaultLamp (h : CellHeader) (ops : List Word) (s : State) : Result :=
  offerRow .clearFault h (2 :: ops) s
/-- PRESET of a pump's run seconds, kind 0 (R123). -/
def execPresetRunSeconds (h : CellHeader) (ops : List Word) (s : State) : Result :=
  offerRow .preset h (0 :: ops) s
/-- PRESET of a tracker's loss counter, kind 1 (R77). -/
def execPresetLossCounter (h : CellHeader) (ops : List Word) (s : State) : Result :=
  offerRow .preset h (1 :: ops) s

end Sys2Proof.Machine
end

