-- ==== Sys2Proof/Machine/Loop.lean ====
section
/-! DEFINITION. The Loop Interface (chapter 1), the insertion arbiter (R15), event cells (R166) and the beacon (R167). -/

namespace Sys2Proof.Machine

/-! ## Classification (R2) -/

/-- The frame that the words from one idle period to the next make: good, damaged, or none for a truncated one (R2).
Words after the check word are dropped; of a body above 120 words at most 127 are kept. -/
def classify (words : List Word) : Option HeldFrame :=
  match words with
  | [] => none
  | header :: rest =>
    let length := headerLength header
    if length ≤ 120 then
      match rest[length]? with
      | none => none
      | some check =>
        let body := rest.take length
        some
          { good := decide (check = checkWord (header :: body)) && !headerDamaged header, header := header,
            body := body }
    else
      match rest with
      | [] => none
      | _ :: _ => some { good := false, header := header, body := rest.dropLast.take 127 }

/-! ## The Tag Table and the walk (R6, R11) -/

/-- Whether a cell of a kind and tag matches an entry (R11). -/
def TagEntry.accepts (e : TagEntry) (kind : Nat) (tag : Word) : Bool :=
  e.valid && e.kinds.getLsbD kind && decide ((tag ^^^ e.base) &&& ~~~e.mask = 0)

/-- The lowest-numbered matching entry decides the cell (R11). -/
def State.decidingEntry (s : State) (kind : Nat) (tag : Word) : Option TagEntry :=
  s.tags.toList.find? fun e => e.accepts kind tag

/-- A cell of the body with the entry that decides it, or the malformed rest of the body with none (R6). -/
structure Segment where
  cell : List Word
  entry : Option TagEntry
deriving DecidableEq, Repr

/-- Whether a cell whose word A this is, with so many words of body left, is malformed (R6). -/
def malformed (a : Word) (left : Nat) : Bool :=
  decide (cellLength a < 3 ∨ 24 < cellLength a ∨ 4 < cellKind a ∨ left < cellLength a)

/-- The entry recorded against a cell: only COMMAND and SAMPLE cells are offered to the Tag Table (R6). -/
def State.recordedEntry (s : State) (a tag : Word) : Option TagEntry :=
  if cellKind a = kindCommand ∨ cellKind a = kindSample then s.decidingEntry (cellKind a) tag else none

/-- The walk over a body in cell order, stopping at the first malformed cell; the first argument bounds the number of
cells (R6). -/
def walk (s : State) : Nat → List Word → List Segment
  | 0, rest => [{ cell := rest, entry := none }]
  | n + 1, rest =>
    match rest with
    | [] => []
    | a :: b :: _ :: _ =>
      if malformed a rest.length then [{ cell := rest, entry := none }]
      else
        { cell := rest.take (cellLength a), entry := s.recordedEntry a b } :: walk s n (rest.drop (cellLength a))
    | [_, _] | [_] => [{ cell := rest, entry := none }]

/-! ## Captures (R13, R14) -/

/-- The value of a sample element, clamped to 16383 (R14, 2.7). -/
def elementValue (w : Word) : Nat := min (w.extractLsb' 0 15).toNat 16383

/-- The quality of a sample element (2.7). -/
def elementQuality (w : Word) : Quality := if w.getLsbD 15 then .invalid else .good

/-- The elements present in a sample cell: the lesser of the element count in word C and the cell length minus 3
(R14). -/
def elements (cell : List Word) : List Word :=
  match cell with
  | _ :: _ :: c :: payload => payload.take (lowByte c).toNat
  | _ => []

/-- The sequence number of a sample cell. -/
def cellSequence (cell : List Word) : Byte := highByte (cell.getD 2 0)

/-- A CAPTURE carried out: the slot updated unless the element is absent or a duplicate, then fed (R14). -/
def capture (e : TagEntry) (cell : List Word) (s : State) : State :=
  match (elements cell)[e.element.val]? with
  | none => s
  | some w =>
    if s.slots[e.slot].filled = true ∧ s.slots[e.slot].sequence = cellSequence cell then s
    else
      sampleArrival (.slot e.slot) (elementValue w) (elementQuality w)
        (s.putSlot e.slot
          { filled := true, value := elementValue w, quality := elementQuality w, sequence := cellSequence cell,
            arrival := s.now })

/-! ## Acceptance (R7, R8, R19) -/

/-- The header of a command cell as the Command Unit reads it (2.7). -/
def cellHeader (cell : List Word) : CellHeader :=
  { tag := cell.getD 1 0, transaction := highByte (cell.getD 2 0), code := lowByte (cell.getD 2 0),
    maintenance := cellMaintenance (cell.getD 0 0) }

/-- A command cell offered to the Command Unit, which reads the command its code selects (R7, R18). -/
def offerCell (codes : Byte → Option CommandName) (cell : List Word) (s : State) : State :=
  offer (codes (cellHeader cell).code) (cellHeader cell) (cell.drop 3) s

/-- A consumed cell: a VOID of the same length with every later word 0 (R7). -/
def voidCell (cell : List Word) : List Word := composeA kindVoid cell.length :: List.replicate (cell.length - 1) 0

/-- A cell left not taken, flagged in its word A (R18). -/
def flagCell (cell : List Word) : List Word := setNotTaken (cell.getD 0 0) :: cell.drop 1

/-- The state reached and the words forwarded so far while the dispositions are carried out. -/
structure Passage where
  state : State
  body : List Word
deriving DecidableEq, Repr

/-- One recorded disposition carried out (R7). -/
def carryCell (codes : Byte → Option CommandName) (p : Passage) (g : Segment) : Passage :=
  let s := p.state
  let kind := cellKind (g.cell.getD 0 0)
  match g.entry with
  | none => { p with body := p.body ++ g.cell }
  | some e =>
    match e.disposition with
    | .execute =>
      if kind = kindCommand then
        { state := offerCell codes g.cell s,
          body := p.body ++ if s.canTake then voidCell g.cell else flagCell g.cell }
      else { p with body := p.body ++ g.cell }
    | .executeForward =>
      if kind = kindCommand then
        { state := offerCell codes g.cell s, body := p.body ++ if s.canTake then g.cell else flagCell g.cell }
      else { p with body := p.body ++ g.cell }
    | .capture =>
      { state := if kind = kindSample then capture e g.cell s else s, body := p.body ++ g.cell }
    | .pass => { p with body := p.body ++ g.cell }

/-- The dispositions of a good frame's cells carried out in body order (R7). -/
def carryCells (codes : Byte → Option CommandName) (segments : List Segment) (s : State) : Passage :=
  segments.foldl (carryCell codes) { state := s, body := [] }

/-- The acceptance of a good frame, which then waits in the reception buffer (R4, R7). -/
def acceptFrame (codes : Byte → Option CommandName) (header : Word) (body : List Word) (s : State) : State :=
  let done := carryCells codes (walk s body.length body) (beginAcceptance s)
  { done.state with
    loop := { done.state.loop with reception := some { good := true, header := header, body := done.body } } }

/-- A frame received into the free reception buffer and classified: a good one accepted, a damaged one held, a
truncated one discarded (R2, R5, R7). -/
def receiveFrame (codes : Byte → Option CommandName) (words : List Word) (s : State) : State :=
  match classify words with
  | none => s
  | some f =>
    if f.good then acceptFrame codes f.header f.body s
    else { s with loop := { s.loop with reception := some f } }

/-- FRAME_RECEIVED: a frame whose first word found the reception buffer free; one that found it occupied is
DISCARDED_FRAME (R2, R4; log entry 9). -/
def execFrameReceived (words : List Word) (s : State) : Result :=
  .next (whenDue s.loop.reception.isNone (receiveFrame Config.commandOfCode words) s)

/-- DISCARDED_FRAME: the discarded-frame count goes up by 1, saturating (R4). -/
def execDiscardedFrame (s : State) : Result :=
  .next (whenDue s.loop.reception.isSome
    (fun s => { s with loop := { s.loop with discarded := sat16 (s.loop.discarded + 1) } }) s)

/-! ## The insertion arbiter (R15) -/

/-- The tail being filled: the cells appended, the words still free, and whether a candidate did not fit. -/
structure Tail where
  state : State
  words : List Word
  free : Nat
  stopped : Bool
deriving DecidableEq, Repr

/-- A candidate offered: appended with its effect on its owner if it fits; the arbiter stops at the first that does
not (R15). -/
def Tail.offer (t : Tail) (cell : List Word) (appended : State → State) : Tail :=
  if t.stopped then t
  else if cell.length ≤ t.free then
    { state := appended t.state, words := t.words ++ cell, free := t.free - cell.length, stopped := false }
  else { t with stopped := true }

/-- The entry of an appended reply freed (R15, R23). -/
def freeReply (s : State) : State := { s with replies := { s.replies with completed := s.replies.completed.drop 1 } }

/-- The completed replies offered, oldest completion first (R15). -/
def offerReplies (t : Tail) : Tail :=
  t.state.replies.completed.foldl (fun t cell => t.offer cell freeReply) t

/-- A tracker's element in the beacon: E, GOOD in ACQUIRE and TRACKING (R167). -/
def beaconElement (t : Tracker) : Word :=
  match t.state with
  | .acquire | .tracking => word t.estimate
  | .freerun | .holdover | .forced => word t.estimate ||| 0x8000

/-- The beacon: one SAMPLE cell of 7 words, under the base of the departing frame (R12, R167). -/
def beaconCell (s : State) : List Word :=
  composeA kindSample 7 :: (s.loop.tailBase + 0x00F0) :: bytesWord s.beacon.sequence 4 ::
    four.map fun t => beaconElement s.trackers[t]

/-- The beacon has left: due cleared, counter 0, sequence number on (R167). -/
def beaconLeft (s : State) : State :=
  { s with beacon := { counter := 0, due := false, sequence := s.beacon.sequence + 1 } }

/-- The beacon offered, if one is due (R15). -/
def offerBeacon (t : Tail) : Tail :=
  if t.state.beacon.due then t.offer (beaconCell t.state) beaconLeft else t

/-- The cell of a pending source, composed when it is offered, under the base of the departing frame (R12, R166, 2.7). -/
def eventCell (n : Fin 22) (s : State) : List Word :=
  let r := s.events.records[n]
  composeA kindEvent (6 + r.detail.length) :: (s.loop.tailBase + 0x00E0) ::
    bytesWord s.events.sequence (BitVec.ofNat 8 r.detail.length) ::
    bytesWord (BitVec.ofNat 8 n.val) (BitVec.ofNat 8 r.count) :: words32 s.time.seconds ++ r.detail

/-- An event has left: its record cleared, for INPUT the changed set too, and the sequence number on (R166). -/
def eventLeft (n : Fin 22) (s : State) : State :=
  let cleared := clearEvent n s
  let emptied := if n = inputSource then emptyChangedSet cleared else cleared
  { emptied with events := { emptied.events with sequence := emptied.events.sequence + 1 } }

/-- The pending events offered, lowest source number first (R15, R166). -/
def offerEvents (t : Tail) : Tail :=
  (List.finRange 22).foldl (fun t n =>
    if t.state.events.records[n].pending then t.offer (eventCell n t.state) (eventLeft n) else t) t

/-- The tail of a good frame whose body has this length: replies, the beacon, events (R15). -/
def fillTail (length : Nat) (s : State) : Tail :=
  offerEvents (offerBeacon (offerReplies { state := s, words := [], free := 120 - length, stopped := false }))

/-- The Beacon Generator counts a departing good frame (R167). -/
def countDeparture (s : State) : State :=
  let b := s.beacon
  if s.report.period = 0 ∨ b.due = true then s
  else if s.report.period ≤ b.counter + 1 then { s with beacon := { b with due := true, counter := 0 } }
  else { s with beacon := { b with counter := b.counter + 1 } }

/-! ## Departure (R4, R5, R16) -/

/-- A frame as it leaves: its header, its body, and the check word over them (R3, R16). -/
def departingFrame (received : Word) (damaged : Bool) (body : List Word) : List Word :=
  let framed := composeHeader received damaged body.length :: body
  framed ++ [checkWord framed]

/-- A frame moved from reception to departure. -/
def sendFrame (words : List Word) (s : State) : State :=
  { s with loop := { s.loop with reception := none, departing := some words } }

/-- The departure of a damaged frame: as received, marked damaged, nothing appended, counted (R5; log entry 8). -/
def departDamaged (f : HeldFrame) (s : State) : State :=
  sendFrame (departingFrame f.header true f.body)
    { s with loop := { s.loop with damaged := sat16 (s.loop.damaged + 1) } }

/-- The departure of a good frame: the tail filled, then the Beacon Generator counts it (R15, R16, R167). -/
def departGood (f : HeldFrame) (s : State) : State :=
  let t := fillTail f.body.length s
  sendFrame (departingFrame f.header false (f.body ++ t.words)) (countDeparture t.state)

/-- The held frame moves to departure (R4). -/
def depart (s : State) : State :=
  match s.loop.reception with
  | none => s
  | some f => if f.good then departGood f s else departDamaged f s

/-- FRAME_DEPARTURE: due while a frame waits and the downstream port is free (R4, R16). -/
def execFrameDeparture (s : State) : Result := .next (whenDue s.loop.departing.isNone depart s)

/-- FRAME_SENT: the downstream port has finished sending and is free (R4). -/
def execFrameSent (s : State) : Result := .next { s with loop := { s.loop with departing := none } }

/-! ## The frame timeout (R8) -/

/-- The frame timeout has run for the configured timeout (R8). -/
def State.timeoutDue (s : State) : Bool := elapsed s.now s.loop.timerFrom s.report.timeout

/-- What the change to LOST tells: the Action Unit, when an isolation plan other than P is configured, and the Demand
Set, when it holds a supervisory part. A notice that would change nothing is left out (R8, R82, R99). -/
def State.lossNotices (s : State) : List Notice :=
  (match s.allocator.budget.isolation with
    | none => []
    | some p => if p = s.plan then [] else [Notice.isolation p]) ++
    if s.demands.any fun r => r.supervisory.isSome then [Notice.removal] else []

/-- The change from UP to LOST (R8). -/
def loseLoop (s : State) : State :=
  deliverAll s.lossNotices
    { s with loop := { s.loop with state := .lost, timerFrom := none, lostAt := s.now } }

/-- FRAME_TIMEOUT (R8). -/
def execFrameTimeout (s : State) : Result := .next (whenDue s.timeoutDue loseLoop s)

end Sys2Proof.Machine
end

