-- ==== Sys2Proof/Machine/Dispatch.lean ====
section
/-! DEFINITION. exec: one arm per command. -/

namespace Sys2Proof.Machine

def exec (i : Instr) (s : State) : Host.Outcome State Fault Refusal :=
  match i with
  | .masterReset straps levels => Sys2Proof.Machine.execMasterReset straps levels s
  | .frameReceived words => Sys2Proof.Machine.execFrameReceived words s
  | .discardedFrame => Sys2Proof.Machine.execDiscardedFrame s
  | .frameDeparture => Sys2Proof.Machine.execFrameDeparture s
  | .frameTimeout => Sys2Proof.Machine.execFrameTimeout s
  | .read h ops => Sys2Proof.Machine.execRead h ops s
  | .eraseTag h ops => Sys2Proof.Machine.execEraseTag h ops s
  | .eraseAction h ops => Sys2Proof.Machine.execEraseAction h ops s
  | .find h ops => Sys2Proof.Machine.execFind h ops s
  | .writeTag h ops => Sys2Proof.Machine.execWriteTag h ops s
  | .writeAction h ops => Sys2Proof.Machine.execWriteAction h ops s
  | .writeScene h ops => Sys2Proof.Machine.execWriteScene h ops s
  | .writeThreshold h ops => Sys2Proof.Machine.execWriteThreshold h ops s
  | .writeTracker h ops => Sys2Proof.Machine.execWriteTracker h ops s
  | .writeTrackerHold h ops => Sys2Proof.Machine.execWriteTrackerHold h ops s
  | .writeAnalog h ops => Sys2Proof.Machine.execWriteAnalog h ops s
  | .writeDigital h ops => Sys2Proof.Machine.execWriteDigital h ops s
  | .writeScan h ops => Sys2Proof.Machine.execWriteScan h ops s
  | .writePump h ops => Sys2Proof.Machine.execWritePump h ops s
  | .writePumpGroup h ops => Sys2Proof.Machine.execWritePumpGroup h ops s
  | .writeGate h ops => Sys2Proof.Machine.execWriteGate h ops s
  | .writeLamp h ops => Sys2Proof.Machine.execWriteLamp h ops s
  | .writeBudget h ops => Sys2Proof.Machine.execWriteBudget h ops s
  | .writeReport h ops => Sys2Proof.Machine.execWriteReport h ops s
  | .writeGain h ops => Sys2Proof.Machine.execWriteGain h ops s
  | .status h ops => Sys2Proof.Machine.execStatus h ops s
  | .setPlan h ops => Sys2Proof.Machine.execSetPlan h ops s
  | .demand h ops => Sys2Proof.Machine.execDemand h ops s
  | .release h ops => Sys2Proof.Machine.execRelease h ops s
  | .gateStop h ops => Sys2Proof.Machine.execGateStop h ops s
  | .clearFaultPump h ops => Sys2Proof.Machine.execClearFaultPump h ops s
  | .clearFaultGate h ops => Sys2Proof.Machine.execClearFaultGate h ops s
  | .clearFaultLamp h ops => Sys2Proof.Machine.execClearFaultLamp h ops s
  | .clearAlarm h ops => Sys2Proof.Machine.execClearAlarm h ops s
  | .convert h ops => Sys2Proof.Machine.execConvert h ops s
  | .lineReset h ops => Sys2Proof.Machine.execLineReset h ops s
  | .forceLevel h ops => Sys2Proof.Machine.execForceLevel h ops s
  | .unforce h ops => Sys2Proof.Machine.execUnforce h ops s
  | .presetRunSeconds h ops => Sys2Proof.Machine.execPresetRunSeconds h ops s
  | .presetLossCounter h ops => Sys2Proof.Machine.execPresetLossCounter h ops s
  | .conversionComplete raw => Sys2Proof.Machine.execConversionComplete raw s
  | .sampleTimerExpiry t => Sys2Proof.Machine.execSampleTimerExpiry t s
  | .lockSettle t => Sys2Proof.Machine.execLockSettle t s
  | .lockTimeEnd t => Sys2Proof.Machine.execLockTimeEnd t s
  | .secondTick => Sys2Proof.Machine.execSecondTick s
  | .holdoverTimeout t => Sys2Proof.Machine.execHoldoverTimeout t s
  | .revert t => Sys2Proof.Machine.execRevert t s
  | .primaryWatchExpiry t => Sys2Proof.Machine.execPrimaryWatchExpiry t s
  | .holdExpiry target => Sys2Proof.Machine.execHoldExpiry target s
  | .filteredStateChange n => Sys2Proof.Machine.execFilteredStateChange n s
  | .startLogExpiry p => Sys2Proof.Machine.execStartLogExpiry p s
  | .confirmExpiry p => Sys2Proof.Machine.execConfirmExpiry p s
  | .runOnEnd p => Sys2Proof.Machine.execRunOnEnd p s
  | .releaseTimerExpiry => Sys2Proof.Machine.execReleaseTimerExpiry s
  | .leadExpiry g => Sys2Proof.Machine.execLeadExpiry g s
  | .travelTimeout g => Sys2Proof.Machine.execTravelTimeout g s
  | .reverseEnd g => Sys2Proof.Machine.execReverseEnd g s
  | .rampTick => Sys2Proof.Machine.execRampTick s
  | .digitalInputSample levels => Sys2Proof.Machine.execDigitalInputSample levels s
  | .frameSent => Sys2Proof.Machine.execFrameSent s

end Sys2Proof.Machine
end

