-- ==== Sys2Proof/Safety.lean ====
section
/-! DEFINITION. What a safe run of the block keeps, in the terms the statements use: the laws of the manual that hold
between any two commands, and what a notice between blocks leaves alone. -/

namespace Sys2Proof.Machine

/-! ## What no notice between blocks touches -/

/-- Two states that differ at most in what the notices between blocks may change: the plan register, the demands, the
moving state of pumps, gates and lamps, the supply mode and shed stage, the event records, and the arbiter's index. -/
structure Untouched (s t : State) : Prop where
  time : t.time = s.time
  loop : t.loop = s.loop
  tags : t.tags = s.tags
  slots : t.slots = s.slots
  unit : t.unit = s.unit
  replies : t.replies = s.replies
  converter : t.converter = s.converter
  gain : t.gain = s.gain
  factory : t.factory = s.factory
  analog : t.analog = s.analog
  digital : t.digital = s.digital
  trackers : t.trackers = s.trackers
  actions : t.actions = s.actions
  scenes : t.scenes = s.scenes
  report : t.report = s.report
  beacon : t.beacon = s.beacon
  pending : t.pending = s.pending
  budget : t.allocator.budget = s.allocator.budget
  writtenAt : t.allocator.writtenAt = s.allocator.writtenAt
  groupConfig : t.group.config = s.group.config
  pumpConfig : ∀ p : Fin 4, t.pumps[p].config = s.pumps[p].config
  gateConfig : ∀ g : Fin 2, t.gates[g].config = s.gates[g].config
  lampConfig : ∀ c : Fin 8, t.lamps[c].config = s.lamps[c].config

/-! ## The acceptance of a good frame -/

/-- The state at the acceptance of a good frame, before its cells: the frame timeout restarted, the loop UP with the LOOP
event if it was LOST (R7, R8, R165), the frame command state clear (R19), and the station base under which the frame will
leave taken from entry 0 as it stands (R12). -/
def State.framed (s : State) : State :=
  let up : State :=
    { s with
      loop :=
        { s.loop with
          state := .up, timerFrom := some s.now, lastGood := some s.now,
          tailBase := s.tags[(0 : Fin 16)].base &&& 0xFF00 }
      unit := { queueFullSeen := false, refusalSeen := false } }
  if s.loop.state = .lost then
    raise loopSource
      [word (min ((s.now - s.loop.lostAt) / 1000) 65535), word s.loop.damaged, word s.loop.discarded] up
  else up

/-- The header of a COMMAND cell with these three words (1.1, 2.7). -/
def commandHeader (a tag c : Word) : CellHeader :=
  { tag := tag, transaction := highByte c, code := lowByte c, maintenance := cellMaintenance a }

/-- The rest of a body, not empty, whose next cell is malformed: fewer than three words, a cell length below 3 or above 24 or
beyond the body, or a kind above 4 (R6). -/
def MalformedFrom (rest : List Word) : Prop :=
  match rest with
  | [] => False
  | a :: others =>
    others.length < 2 ∨ cellLength a < 3 ∨ 24 < cellLength a ∨ 4 < cellKind a ∨ others.length + 1 < cellLength a

/-- What is forwarded in the place of an offered COMMAND cell: the cell with its not-taken flag set if it was not taken, a
VOID of its length if an EXECUTE entry consumed it, the cell itself if an EXECUTE_FORWARD entry decided it (R7, R18). -/
def leftBehind (disposition : Disposition) (taken : Bool) (a : Word) (rest : List Word) : List Word :=
  if taken = false then setNotTaken a :: rest
  else if disposition = .execute then composeA kindVoid (rest.length + 1) :: List.replicate rest.length 0
  else a :: rest

/-! ## Commands and their replies -/

/-- A command cell of a frame, so with the loop UP (R7, R8), that is taken, not cancelled, and passes steps 1 and 3 of R20
as a supervisory command (R18, R19). -/
def Accepted (h : CellHeader) (s : State) : Prop :=
  s.loop.state = .up ∧ s.canTake = true ∧ s.unit.refusalSeen = false ∧ h.transaction ≠ 0 ∧
    (h.maintenance = true → s.maintenanceKey = true)

/-- The state with one more completed reply, of this status and data, and every other field as it was (R22, R23). -/
def State.replied (s : State) (h : CellHeader) (status : Status) (data : List Word) : State :=
  { s with
    replies :=
      { reserved := s.replies.reserved, completed := s.replies.completed ++ [replyCell (replyTo h) status data] } }

/-- The state with the DONE reply of a command carried out. -/
def State.answered (s : State) (h : CellHeader) (data : List Word) : State := s.replied h .done data

/-- The state with the refusal of a command, which sets refusal seen (R19). -/
def State.refused (s : State) (h : CellHeader) (reason : Status) : State :=
  { s.replied h reason [] with unit := { s.unit with refusalSeen := true } }

/-- The command that a row of the table offers to the Command Unit, its header and its operand words; none for the rows
that are not command cells. -/
def offered : Instr → Option (CommandName × CellHeader × List Word)
  | .read h ops => some (.read, h, ops)
  | .eraseTag h ops => some (.erase, h, 0 :: ops)
  | .eraseAction h ops => some (.erase, h, 1 :: ops)
  | .find h ops => some (.find, h, ops)
  | .writeTag h ops => some (.write, h, 0 :: ops)
  | .writeAction h ops => some (.write, h, 1 :: ops)
  | .writeScene h ops => some (.write, h, 2 :: ops)
  | .writeThreshold h ops => some (.write, h, 3 :: ops)
  | .writeTracker h ops => some (.write, h, 4 :: ops)
  | .writeTrackerHold h ops => some (.write, h, 5 :: ops)
  | .writeAnalog h ops => some (.write, h, 6 :: ops)
  | .writeDigital h ops => some (.write, h, 7 :: ops)
  | .writeScan h ops => some (.write, h, 8 :: ops)
  | .writePump h ops => some (.write, h, 9 :: ops)
  | .writePumpGroup h ops => some (.write, h, 10 :: ops)
  | .writeGate h ops => some (.write, h, 11 :: ops)
  | .writeLamp h ops => some (.write, h, 12 :: ops)
  | .writeBudget h ops => some (.write, h, 13 :: ops)
  | .writeReport h ops => some (.write, h, 14 :: ops)
  | .writeGain h ops => some (.write, h, 15 :: ops)
  | .status h ops => some (.status, h, ops)
  | .setPlan h ops => some (.setPlan, h, ops)
  | .demand h ops => some (.demand, h, ops)
  | .release h ops => some (.release, h, ops)
  | .gateStop h ops => some (.gateStop, h, ops)
  | .clearFaultPump h ops => some (.clearFault, h, 0 :: ops)
  | .clearFaultGate h ops => some (.clearFault, h, 1 :: ops)
  | .clearFaultLamp h ops => some (.clearFault, h, 2 :: ops)
  | .clearAlarm h ops => some (.clearAlarm, h, ops)
  | .convert h ops => some (.convert, h, ops)
  | .lineReset h ops => some (.lineReset, h, ops)
  | .forceLevel h ops => some (.forceLevel, h, ops)
  | .unforce h ops => some (.unforce, h, ops)
  | .presetRunSeconds h ops => some (.preset, h, 0 :: ops)
  | .presetLossCounter h ops => some (.preset, h, 1 :: ops)
  | .masterReset _ _ | .frameReceived _ | .discardedFrame | .frameDeparture | .frameTimeout
  | .conversionComplete _ | .sampleTimerExpiry _ | .lockSettle _ | .lockTimeEnd _ | .secondTick
  | .holdoverTimeout _ | .revert _ | .primaryWatchExpiry _ | .holdExpiry _ | .filteredStateChange _
  | .startLogExpiry _ | .confirmExpiry _ | .runOnEnd _ | .releaseTimerExpiry | .leadExpiry _
  | .travelTimeout _ | .reverseEnd _ | .rampTick | .digitalInputSample _ | .frameSent => none

/-- The number of operand words that a command takes, and for WRITE the fewest (R20, R26 to R32). -/
def operandCount : CommandName → Nat
  | .lineReset => 0
  | .setPlan | .release | .gateStop | .clearAlarm | .convert | .unforce => 1
  | .read | .write | .erase | .status | .clearFault | .forceLevel => 2
  | .demand => 3
  | .find | .preset => 4

/-- A supervisory part after one second of its hold: a hold of 0 stands, a hold of 1 ends the part (R98). -/
def counted {α : Type} (v : Option (Supervisory α)) : Option (Supervisory α) :=
  v.bind fun x => if x.hold = 1 then none else some { x with hold := x.hold - 1 }

/-! ## The records in the manual's terms: which words a WRITE accepts, and what it stores -/

/-- A word that names a member below a limit, or NONE as 0xFFFF (R25). -/
def Names {n : Nat} (limit : Nat) (w : Word) (i : Option (Fin n)) : Prop :=
  match i with
  | none => w = 0xFFFF
  | some i => i.val = w.toNat ∧ i.val < limit

/-- A number clamped to a range: below it the least value, above it the greatest (00 "Quantities"). -/
def Clamped (lo hi : Nat) (w : Word) (n : Nat) : Prop :=
  (w.toNat < lo → n = lo) ∧ (lo ≤ w.toNat → w.toNat ≤ hi → n = w.toNat) ∧ (lo ≤ w.toNat → hi < w.toNat → n = hi)

/-- TAG: kinds no more than COMMAND and SAMPLE; slot and element 0 unless the disposition is CAPTURE (R10). -/
def TagRecord (ws : List Word) (e : TagEntry) : Prop :=
  match ws with
  | [v, base, mask, kinds, d, slot, element] =>
    v = (if e.valid then 1 else 0) ∧ (e.base = base ∧ e.mask = mask ∧ e.kinds = kinds) ∧
      (∀ b, kinds.getLsbD b = true → b = 1 ∨ b = 3) ∧
      d = (match e.disposition with | .execute => 0 | .executeForward => 1 | .capture => 2 | .pass => 3) ∧
      if e.disposition = .capture then e.slot.val = slot.toNat ∧ e.element.val = element.toNat
      else e.slot = 0 ∧ e.element = 0
  | _ => False

/-- One item of an ACTION record: PUMPS 0 to 7, stored as at most 4; GATE; SCENE; PLAN; EVENT 0 to 255 (R84). -/
def ItemRecord (kind a b : Word) (x : Item) : Prop :=
  match x with
  | .pumps n => kind = 0 ∧ a.toNat ≤ 7 ∧ n = min a.toNat 4
  | .gate g v => kind = 1 ∧ g.val = a.toNat ∧ b = (match v with | .none => 0 | .open => 1 | .close => 2)
  | .scene z n => kind = 2 ∧ z.val = a.toNat ∧ n.val = b.toNat
  | .plan p => kind = 3 ∧ p.val = a.toNat
  | .event code => kind = 4 ∧ code.toNat = a.toNat

/-- ACTION: 6 + 3m words, m from 1 to 4 (R83). -/
def ActionRecord (ws : List Word) (x : ActionEntry) : Prop :=
  match ws with
  | v :: t :: b :: edge :: plans :: m :: items =>
    v = (if x.valid then 1 else 0) ∧ x.tracker.val = t.toNat ∧
      (match x.band with | none => b = 0x00FF | some n => n = b.toNat ∧ n ≤ 8) ∧
      edge = (match x.edge with | .enter => 0 | .leave => 1) ∧ x.plans.toNat = plans.toNat ∧
      (1 ≤ m.toNat ∧ m.toNat ≤ 4 ∧ items.length = 3 * m.toNat ∧ x.items.length = m.toNat) ∧
      ∀ (j : Nat) (y : Item), x.items[j]? = some y →
        ItemRecord (items.getD (3 * j) 0) (items.getD (3 * j + 1) 0) (items.getD (3 * j + 2) 0) y
  | _ => False

/-- THRESHOLD: 1 + 2n words, n from 0 to 8, the levels strictly ascending and at most 16383, each hysteresis clamped to 1023
(R70). -/
def ThresholdRecord (ws : List Word) (ths : List Threshold) : Prop :=
  match ws with
  | n :: rest =>
    (n.toNat ≤ 8 ∧ rest.length = 2 * n.toNat ∧ ths.length = n.toNat) ∧
      (∀ (j : Nat) (x : Threshold), ths[j]? = some x →
        x.level = (rest.getD (2 * j) 0).toNat ∧ x.level ≤ 16383 ∧
          x.hysteresis = min (rest.getD (2 * j + 1) 0).toNat 1023) ∧
      ∀ (j : Nat) (x y : Threshold), ths[j]? = some x → ths[j + 1]? = some y → x.level < y.level
  | _ => False

/-- A source word: an analog input in the LEVEL role, a slot as 16 and above, or NONE (R52, R54). -/
def SourceRecord (s : State) (w : Word) (source : Option Source) : Prop :=
  match source with
  | none => w = 0xFFFF
  | some (.analog i) => w.toNat = i.val ∧ s.analog[i].config.role = .level
  | some (.slot j) => w.toNat = 16 + j.val

/-- TRACKER: its two sources and the ranges of its seven tuning fields (R54). -/
def TrackerRecord (s : State) (ws : List Word) (c : TrackerConfig) : Prop :=
  match ws with
  | [p, q, acquire, track, step, threshold, lock, unlock, timeout] =>
    (SourceRecord s p c.primary ∧ SourceRecord s q c.secondary ∧ (c.primary = none ∨ c.primary ≠ c.secondary)) ∧
      Clamped 0 10 acquire c.acquireShift ∧ Clamped 0 10 track c.trackShift ∧ Clamped 1 65535 step c.stepLimit ∧
      Clamped 1 1023 threshold c.lockThreshold ∧ Clamped 1 255 lock c.lockTime ∧ Clamped 1 15 unlock c.unlockCount ∧
      Clamped 100 10000 timeout c.sampleTimeout
  | _ => False

/-- TRACKER_HOLD: the ranges of its fields; the float input 0 to 14 or NONE; the float band 0 to 8 (R55). -/
def HoldRecord (ws : List Word) (c : HoldConfig) : Prop :=
  match ws with
  | [history, timeout, window, surge, hysteresis, offset, bleed, revert, input, band, alarm] =>
    (Names 15 input c.floatInput ∧ c.floatBand = band.toNat ∧ c.floatBand ≤ 8) ∧
      Clamped 0 16 history c.history ∧ Clamped 0 3600 timeout c.timeout ∧ Clamped 1 15 window c.window ∧
      Clamped 0 4095 surge c.surgeRate ∧ Clamped 0 4095 hysteresis c.surgeHysteresis ∧
      Clamped 0 1023 offset c.offsetLimit ∧ Clamped 0 15 bleed c.bleed ∧ Clamped 0 255 revert c.revertTime ∧
      Clamped 0 15 alarm c.alarmThreshold
  | _ => False

/-- SCAN: 1 + ceil(n / 2) words, n from 0 to 24, two entries a word, the earlier in the high byte (R25, R36). -/
def ScanRecord (ws : List Word) (l : List (Fin 16)) : Prop :=
  match ws with
  | n :: rest =>
    (n.toNat ≤ 24 ∧ rest.length = (n.toNat + 1) / 2 ∧ l.length = n.toNat) ∧
      ∀ (j : Nat) (i : Fin 16), l[j]? = some i →
        i.val = if j % 2 = 0 then (rest.getD (j / 2) 0).toNat / 256 else (rest.getD (j / 2) 0).toNat % 256
  | _ => False

/-- PUMP: two inputs that differ, the start load at least the rated one, and the ranges of its fields (R104). -/
def PumpRecord (ws : List Word) (c : PumpConfig) : Prop :=
  match ws with
  | [available, feedback, fault, rated, start, confirm, run, runOn, starts, mask] =>
    available = (if c.available then 1 else 0) ∧ Names 15 feedback (some c.feedback) ∧ Names 15 fault c.fault ∧
      c.fault ≠ some c.feedback ∧ c.planMask.toNat = mask.toNat ∧ c.rated = rated.toNat ∧
      c.start = max rated.toNat start.toNat ∧ Clamped 1 60 confirm c.confirm ∧ Clamped 0 3600 run c.minimumRun ∧
      Clamped 0 600 runOn c.runOn ∧ Clamped 1 15 starts c.startsPerHour
  | _ => False

/-- PUMP_GROUP: the sump tracker, the dry band 0 to 8 or NONE, the stagger 1 to 120 (R106). -/
def GroupRecord (ws : List Word) (c : GroupConfig) : Prop :=
  match ws with
  | [sump, dry, stagger] =>
    c.sump.val = sump.toNat ∧ (match c.dryBand with | none => dry = 0xFFFF | some b => b = dry.toNat ∧ b ≤ 8) ∧
      Clamped 1 120 stagger c.stagger
  | _ => False

/-- GATE: three inputs that differ, a warning set of WARN channels, and the ranges of its fields, the degraded lead at least
the lead (R127). -/
def GateRecord (s : State) (ws : List Word) (c : GateConfig) : Prop :=
  match ws with
  | [present, openLimit, closedLimit, obstruction, travel, lead, degraded, warning, reverse, retry, tracker, band] =>
    (present = (if c.present then 1 else 0) ∧ Names 15 openLimit (some c.openLimit) ∧
        Names 15 closedLimit (some c.closedLimit) ∧ Names 15 obstruction c.obstruction) ∧
      (c.openLimit ≠ c.closedLimit ∧ c.obstruction ≠ some c.openLimit ∧ c.obstruction ≠ some c.closedLimit) ∧
      (c.warning.toNat = warning.toNat ∧ ∀ n : Fin 8, c.warning.getLsbD n = true → s.lamps[n].config.role = .warn) ∧
      (c.tracker.val = tracker.toNat ∧ c.band = band.toNat ∧ c.band ≤ 8) ∧
      Clamped 5 600 travel c.travel ∧ Clamped 0 600 lead c.lead ∧ Clamped c.lead 600 degraded c.degraded ∧
      Clamped 0 30 reverse c.reverse ∧ Clamped 0 7 retry c.retryLimit
  | _ => False

/-- LAMP for channel c: a change of role only where no warning set names the channel, a current input in the CURRENT role,
the zone of a WARN channel 0, the ranges of its fields, and a WARN reserve within both budgets (R144). -/
def LampRecord (s : State) (c : Fin 8) (ws : List Word) (k : LampConfig) : Prop :=
  match ws with
  | [role, zone, load, ramp, floor, input, current, tolerance] =>
    role = (match k.role with | .general => 0 | .warn => 1) ∧
      k.zone.val = (match k.role with | .general => zone.toNat | .warn => 0) ∧
      (k.role ≠ s.lamps[c].config.role → ∀ g : Fin 2, s.gates[g].config.warning.getLsbD c = false) ∧
      Names 16 input k.current ∧ (∀ i, k.current = some i → s.analog[i].config.role = .current) ∧
      k.fullLoad = load.toNat ∧ Clamped 1 255 ramp k.rampRate ∧ Clamped 0 255 floor k.floor ∧
      Clamped 0 4095 current k.fullCurrent ∧ Clamped 0 4095 tolerance k.tolerance ∧
      (k.role = .warn →
        let reserve : Nat :=
          ((List.finRange 8).map fun n : Fin 8 =>
            let r := if n = c then k else s.lamps[n].config
            if r.role = .warn then r.fullLoad else 0).sum
        reserve ≤ s.allocator.budget.mains ∧ reserve ≤ s.allocator.budget.standby)
  | _ => False

/-- BUDGET: both budgets at least the reserve, the supply input 0 to 14 or NONE, the release time 10 to 600, the isolation plan
0 to 7 or NONE (R155). -/
def BudgetRecord (s : State) (ws : List Word) (b : Budget) : Prop :=
  match ws with
  | [mains, standby, supply, release, isolation] =>
    (b.mains = mains.toNat ∧ b.standby = standby.toNat ∧ s.reservePart ≤ b.mains ∧ s.reservePart ≤ b.standby) ∧
      Names 15 supply b.supply ∧ Clamped 10 600 release b.release ∧ Names 8 isolation b.isolation
  | _ => False

/-! ## An arrival at a tracker (R53) -/

/-- The accumulator after a filter stage on sample v with offset O and a shift (R57). -/
def Tracker.stepped (t : Tracker) (offset : Int) (v shift : Nat) : Nat :=
  let a : Int := t.accumulator
  let l : Int := t.config.stepLimit
  let e : Int := 16 * max 0 (min 16383 ((v : Int) + offset)) - a
  (max 0 (min 262128 (a + max (-l) (min l (e / (2 ^ shift : Int)))))).toNat

/-- Whether sample v with offset O fails the lock test: |e| > 16 · θ (R57). -/
def Tracker.missed (t : Tracker) (offset : Int) (v : Nat) : Prop :=
  16 * t.config.lockThreshold < (16 * max 0 (min 16383 ((v : Int) + offset)) - (t.accumulator : Int)).natAbs

/-- A tracker back at the start of ACQUIRE: phase FAST, or SETTLE at once with a lock time of 1 s, and the lock timer from
0 (R59, R60). -/
def Tracker.relocked (x : Tracker) (now : Nat) : Prop :=
  x.state = .acquire ∧ x.phase = (if x.config.lockTime / 2 = 0 then .settle else .fast) ∧ x.lockFrom = some now

/-- What the loss of the active source makes of a tracker whose other source is not valid: HOLDOVER from TRACKING, FREERUN
from ACQUIRE (R58, R62, R65). -/
def Tracker.LostAlone (o x : Tracker) : Prop :=
  x.active = .none ∧ x.offset = 0 ∧ x.sampleFrom = none ∧ x.lockFrom = none ∧
    (o.state = .tracking →
      x.state = .holdover ∧ x.holdLevel = o.holdValue ∧ x.estimate = x.holdLevel ∧ x.accumulator = 16 * x.holdLevel ∧
        x.holdSeconds = 0 ∧ x.heldRate = o.lastRate.getD 0 ∧ x.loss = min (o.loss + 1) 15) ∧
    (o.state = .acquire →
      x.state = .freerun ∧ x.band = none ∧ x.estimate = 0 ∧ x.accumulator = 0 ∧ x.loss = o.loss)

/-- What the loss of the active source on this side makes of tracker o (R62, R63, R65). -/
def Lost (side : Active) (src : Sources) (o x : Tracker) : Prop :=
  match src.sample side.other with
  | none => o.LostAlone x
  | some y =>
    if validSample src.now o.config.sampleTimeout (some y) = false then o.LostAlone x
    else
      x.active = side.other ∧ x.sampleFrom = some y.arrival ∧
        if o.state = .tracking ∧ ((o.estimate : Int) - y.value).natAbs ≤ o.hold.offsetLimit then
          x.state = .tracking ∧ x.offset = (o.estimate : Int) - y.value ∧ x.unlockRun = 0 ∧
            x.accumulator = o.accumulator ∧ x.estimate = o.estimate ∧ x.loss = o.loss
        else
          x.relocked src.now ∧ x.offset = 0 ∧ x.accumulator = 16 * y.value ∧ x.estimate = y.value ∧
            (o.state = .tracking → x.unlockRun = 0 ∧ x.loss = min (o.loss + 1) 15) ∧
            (o.state = .acquire → x.loss = o.loss)

/-- What a sample v of this quality, arriving from the source on this side, makes of tracker o: seeding in FREERUN (R58), the
filter and lock tests of ACQUIRE and TRACKING (R59, R61), the end of HOLDOVER (R67), nothing in FORCED (R75), the loss of an
active source by INVALID quality (R62), the primary watch (R64), and the level band (R71). -/
def Arrived (side : Active) (v : Nat) (q : Quality) (src : Sources) (o x : Tracker) : Prop :=
  let valid (k : Active) : Bool := validSample src.now o.config.sampleTimeout (src.sample k)
  let filtered (offset : Int) (shift : Nat) : Prop :=
    x.accumulator = o.stepped offset v shift ∧ x.estimate = (x.accumulator + 8) / 16
  let still : Prop :=
    x.state = o.state ∧ x.active = o.active ∧ x.accumulator = o.accumulator ∧ x.estimate = o.estimate ∧
      x.offset = o.offset ∧ x.unlockRun = o.unlockRun ∧ x.sampleFrom = o.sampleFrom ∧ x.lockFrom = o.lockFrom ∧
      x.loss = o.loss
  (x.config = o.config ∧ x.hold = o.hold ∧ x.thresholds = o.thresholds ∧ x.ring = o.ring) ∧
  (o.state ≠ .freerun → x.state ≠ .freerun →
    x.band = if x.estimate = o.estimate then o.band else stepBand o.thresholds x.estimate o.band) ∧
  (x.watch =
    if o.state ≠ .freerun ∧ x.state = .freerun then none
    else if side = .primary then (if q = .good then some (o.watch.getD src.now) else none)
    else o.watch) ∧
  (o.state = .freerun →
    if q = .good ∧ (side = .primary ∨ valid .primary = false) then
      x.relocked src.now ∧ x.active = side ∧ x.offset = 0 ∧ x.accumulator = 16 * v ∧ x.estimate = v ∧
        x.sampleFrom = some src.now ∧ x.loss = o.loss ∧
        x.band = some (o.thresholds.filter fun y => decide (y.level ≤ v)).length
    else still ∧ x.band = o.band) ∧
  (o.state = .forced → still) ∧
  (o.state = .acquire ∨ o.state = .tracking → o.active ≠ side → still) ∧
  (o.state = .acquire ∨ o.state = .tracking → o.active = side → q = .invalid → Lost side src o x) ∧
  (o.state = .acquire → o.active = side → q = .good →
    x.active = side ∧ x.offset = o.offset ∧ x.sampleFrom = some src.now ∧ x.loss = o.loss ∧
      (o.missed o.offset v → x.relocked src.now ∧ filtered o.offset o.config.acquireShift) ∧
      (¬o.missed o.offset v →
        x.state = .acquire ∧ x.lockFrom = o.lockFrom ∧
          x.phase = (if o.config.lockTime / 2 = 0 then .settle else o.phase) ∧
          filtered o.offset (if o.phase = .fast then o.config.acquireShift else o.config.trackShift))) ∧
  (o.state = .tracking → o.active = side → q = .good →
    x.active = side ∧ x.offset = o.offset ∧ x.sampleFrom = some src.now ∧
      (¬o.missed o.offset v →
        x.state = .tracking ∧ x.unlockRun = 0 ∧ x.loss = o.loss ∧ filtered o.offset o.config.trackShift) ∧
      (o.missed o.offset v → o.unlockRun + 1 < o.config.unlockCount →
        x.state = .tracking ∧ x.unlockRun = o.unlockRun + 1 ∧ x.loss = o.loss ∧
          filtered o.offset o.config.trackShift) ∧
      (o.missed o.offset v → o.config.unlockCount ≤ o.unlockRun + 1 →
        x.relocked src.now ∧ x.unlockRun = 0 ∧ x.loss = min (o.loss + 1) 15 ∧
          filtered o.offset o.config.acquireShift)) ∧
  (o.state = .holdover → q = .invalid → still) ∧
  (o.state = .holdover → q = .good →
    let chosen : Active := if valid .primary = true ∧ valid .secondary = true then .primary else side
    x.relocked src.now ∧ x.active = chosen ∧ x.offset = 0 ∧ x.holdLevel = 0 ∧ x.heldRate = 0 ∧ x.holdSeconds = 0 ∧
      x.sampleFrom = (src.sample chosen).map (fun y => y.arrival) ∧ x.loss = o.loss ∧
      (chosen = side → filtered 0 o.config.acquireShift) ∧
      (chosen ≠ side → x.accumulator = o.accumulator ∧ x.estimate = o.estimate))

/-- Every tracker whose record names the source has taken the sample, as the arrival from that side, with its effective band
made anew (R14, R44, R53, R73); no other tracker has changed. `s` holds the sample already. -/
def Fed (source : Source) (v : Nat) (q : Quality) (s t : State) : Prop :=
  ∀ i : Fin 4,
    if s.trackers[i].config.primary = some source then
      Arrived .primary v q (s.sourcesOf i) s.trackers[i] t.trackers[i] ∧
        t.trackers[i].effective = t.trackers[i].effectiveBand (s.inputActive s.trackers[i].hold.floatInput)
    else if s.trackers[i].config.secondary = some source then
      Arrived .secondary v q (s.sourcesOf i) s.trackers[i] t.trackers[i] ∧
        t.trackers[i].effective = t.trackers[i].effectiveBand (s.inputActive s.trackers[i].hold.floatInput)
    else t.trackers[i] = s.trackers[i]

/-! ## The group decision (R115) -/

/-- The pumps among those of a test that come before pump p: with fewer run seconds, or as many and a lower number
(R116, R117). -/
def State.ahead (s : State) (test : Fin 4 → Bool) (p : Fin 4) : Nat :=
  ((List.finRange 4).filter fun q =>
    test q && decide (s.pumps[q].runSeconds.toNat < s.pumps[p].runSeconds.toNat ∨
      s.pumps[q].runSeconds = s.pumps[p].runSeconds ∧ q < p)).length

/-- The pumps among those of a test that are stopped before pump p: with more run seconds, or as many and a lower number
(R120). -/
def State.stoppedAhead (s : State) (test : Fin 4 → Bool) (p : Fin 4) : Nat :=
  ((List.finRange 4).filter fun q =>
    test q && decide (s.pumps[p].runSeconds.toNat < s.pumps[q].runSeconds.toNat ∨
      s.pumps[q].runSeconds = s.pumps[p].runSeconds ∧ q < p)).length

/-- The shed stage at which the start load fits the active budget, with the general lighting cut to its cap, if one not below
the present stage does (R158). -/
def State.stageFor (s : State) (load : Nat) : Option Nat :=
  if s.committed + load ≤ s.activeBudget then some s.allocator.stage
  else if s.allocator.stage < 1 ∧ s.committedAt 1 + load ≤ s.activeBudget then some 1
  else if s.allocator.stage < 2 ∧ s.committedAt 2 + load ≤ s.activeBudget then some 2
  else none

/-- No pump starts: every pump but those in RUN_ON, the last start, the shed stage and the lamps are as they were, and the
unmet reason is this one (R117, R122). -/
def NoStart (reason : Unmet) (s t : State) : Prop :=
  (∀ p : Fin 4, s.pumps[p].state ≠ .runOn → t.pumps[p] = s.pumps[p]) ∧ t.group.lastStart = s.group.lastStart ∧
    t.allocator.stage = s.allocator.stage ∧ t.lamps = s.lamps ∧ t.group.reason = reason

/-- What a group decision makes of s where dry protection is not in force: the reclaims in order of run seconds (R116), the
one start with its conditions and its grant (R117, R158), the surplus stops (R120), and the unmet reason with the
start-waiting-for-load mark and the release timer it stops or starts (R122, R161). -/
def GroupDecides (s t : State) : Prop :=
  let demand := s.group.demand
  let active := s.activeCount
  let inRunOn (p : Fin 4) : Bool := decide (s.pumps[p].state = .runOn)
  let held := ((List.finRange 4).filter inRunOn).length
  let candidate (p : Fin 4) : Bool :=
    decide (s.pumps[p].state = .idle) && !s.digital[s.pumps[p].config.feedback].filtered
  let unmasked (p : Fin 4) : Bool := candidate p && !s.pumps[p].config.planMask.getLsbD s.plan
  let allowed (p : Fin 4) : Bool :=
    unmasked p && decide (s.pumps[p].startLog.length < s.pumps[p].config.startsPerHour)
  let stoppable (p : Fin 4) : Bool :=
    decide (s.pumps[p].state = .running) &&
      s.pumps[p].runStart.any fun r => decide (s.pumps[p].config.minimumRun ≤ (s.time.seconds - r).toNat)
  let waited : Prop := s.group.lastStart + s.group.config.stagger * 1000 ≤ s.now
  (t.group.config = s.group.config ∧ t.group.demand = demand ∧ t.group.waiting = decide (t.group.reason = .load)) ∧
  (t.allocator.releaseFrom =
    if t.group.waiting = s.group.waiting then
      if t.allocator.stage = s.allocator.stage then s.allocator.releaseFrom
      else if s.group.waiting then none else some s.now
    else if t.group.waiting then none
    else if 0 < t.allocator.stage then some s.now
    else s.allocator.releaseFrom) ∧
  (active < demand →
    (∀ p : Fin 4, s.pumps[p].state = .runOn →
      t.pumps[p] =
        if s.ahead inRunOn p < demand - active then
          { s.pumps[p] with state := .running, cause := some .demand, confirmFrom := none, runOnFrom := none }
        else s.pumps[p]) ∧
    (demand ≤ active + held → NoStart .none s t) ∧
    (active + held < demand →
      ((∀ p, candidate p = false) → NoStart .noPump s t) ∧
      ((∃ p, candidate p = true) → (∀ p, unmasked p = false) → NoStart .masked s t) ∧
      ((∃ p, unmasked p = true) → (∀ p, allowed p = false) → NoStart .starts s t) ∧
      ((∃ p, allowed p = true) → ¬waited → NoStart .none s t) ∧
      ∀ p, allowed p = true → s.ahead allowed p = 0 → waited →
        match s.stageFor s.pumps[p].config.start with
        | none => NoStart .load s t
        | some stage =>
          t.pumps[p] =
              { s.pumps[p] with
                state := .starting, cause := some .demand, confirmFrom := some s.now, runOnFrom := none,
                startLog := s.pumps[p].startLog ++ [s.time.seconds] } ∧
            (∀ q, q ≠ p → s.pumps[q].state ≠ .runOn → t.pumps[q] = s.pumps[q]) ∧ t.group.lastStart = s.now ∧
            t.group.reason = .none ∧ t.allocator.stage = stage ∧
            ∀ c : Fin 8, s.lamps[c].config.role = .general →
              t.lamps[c].output =
                if stage = s.allocator.stage then s.lamps[c].output
                else min s.lamps[c].output (stageCap stage s.lamps[c].config))) ∧
  (demand ≤ active →
    (t.group.lastStart = s.group.lastStart ∧ t.allocator.stage = s.allocator.stage ∧ t.lamps = s.lamps ∧
      t.group.reason = .none) ∧
    ∀ p : Fin 4,
      t.pumps[p] =
        if stoppable p = true ∧ s.stoppedAhead stoppable p < active - demand then
          { s.pumps[p] with
            state := if s.pumps[p].config.runOn = 0 then .idle else .runOn, cause := some .demand, confirmFrom := none,
            runOnFrom := if s.pumps[p].config.runOn = 0 then none else some s.now }
        else s.pumps[p])

/-! ## What the entries of a piece of the Action Unit's work write (R88) -/

/-- The demand records after one item of entry e (R88). -/
def Demands.writtenBy (d : Demands) (w : Fin 64 × Item) : Demands :=
  match w.2 with
  | .pumps n => { d with pumps := { d.pumps with automatic := n, entry := some w.1 } }
  | .gate g v => { d with gates := d.gates.set g { d.gates[g] with automatic := v, entry := some w.1 } }
  | .scene z n => { d with zones := d.zones.set z { d.zones[z] with automatic := n, entry := some w.1 } }
  | .plan _ | .event _ => d

/-- The items of an entry that may be absent, each with the entry's index, in list order (R88). -/
def State.itemsOf (s : State) (e : Option (Fin 64)) : List (Fin 64 × Item) :=
  match e with
  | none => []
  | some e => s.actions[e].items.map fun x => (e, x)

/-- The items a band change runs before any cascade: those of the LEAVE entry of the old band, then those of the ENTER entry
of the new one, both under the plan in force (R87). -/
def State.firedItems (s : State) (t : Fin 4) (old new : Band) : List (Fin 64 × Item) :=
  s.itemsOf (s.findEntry t old .leave s.plan) ++ s.itemsOf (s.findEntry t new .enter s.plan)

/-- The items a cascade toward a plan runs: for T0 to T3 those of the ENTER entry of the present effective band (R91). -/
def State.cascadeItems (s : State) (plan : Fin 8) : List (Fin 64 × Item) :=
  (List.finRange 4).flatMap fun t => s.itemsOf (s.findEntry t s.trackers[t].effective .enter plan)

/-- The last plan that the items ask for, with its entry (R89). -/
def lastPlan (ws : List (Fin 64 × Item)) : Option (Fin 8 × Fin 64) :=
  ws.foldl (fun asked w => match w.2 with | .plan p => some (p, w.1) | _ => asked) none

/-- The last event code that the items raise, with its entry (R88). -/
def lastEvent (ws : List (Fin 64 × Item)) : Option (Byte × Fin 64) :=
  ws.foldl (fun code w => match w.2 with | .event c => some (c, w.1) | _ => code) none

/-! ## What an owner makes of its notice (R101) -/

/-- What a decision of the pump group, and all it moves, leaves alone. -/
structure GroupOnly (s t : State) : Prop where
  untouched : Untouched s t
  gates : t.gates = s.gates
  plan : t.plan = s.plan
  demands : t.demands = s.demands
  mode : t.allocator.mode = s.allocator.mode

/-- A group decision. While dry protection is in force no pump, no lamp and no shed stage moves, and the unmet reason is DRY
while the active count is below the demand (R114, R115, R122, R161). -/
def GroupAnswers (s t : State) : Prop :=
  GroupOnly s t ∧
  (s.dryInForce = true →
    t.pumps = s.pumps ∧ t.lamps = s.lamps ∧
      t.group =
        { s.group with reason := if s.group.demand ≤ s.activeCount then .none else .dry, waiting := false } ∧
      t.allocator =
        { s.allocator with
          releaseFrom :=
            if s.group.waiting = true ∧ 0 < s.allocator.stage then some s.now else s.allocator.releaseFrom }) ∧
  (s.dryInForce = false → GroupDecides s t)

/-- What the group makes of a change of its sump tracker or of its own record: dry protection in force stops every running
pump with cause DRY_STOP; not in force, the group decides (R106, R114, R115). -/
def SumpAnswers (s t : State) : Prop :=
  GroupOnly s t ∧
  (s.dryInForce = true →
    (∀ p : Fin 4,
      t.pumps[p] =
        if s.pumps[p].runOutput then
          { s.pumps[p] with state := .idle, cause := some .dryStop, confirmFrom := none, runOnFrom := none }
        else s.pumps[p]) ∧
    t.group.lastStart = s.group.lastStart ∧ t.group.waiting = false ∧
    t.group.reason = (if s.group.demand = 0 then .none else .dry) ∧ t.lamps = s.lamps ∧
    t.allocator.stage = s.allocator.stage) ∧
  (s.dryInForce = false → GroupDecides s t)

/-- A gate at rest in a state: no timer runs, and the reopen-held mark is clear (R131). -/
def Gate.resting (x : Gate) (state : GateState) (detail : GateDetail) : Gate :=
  { x with
    state := state, detail := some detail, leadFrom := none, leadInForce := none, travelFrom := none,
    reverseFrom := none, held := false }

/-- Gate g begins a warning with this detail: WARNING with the lead from 0, the degraded one with a lamp fault in the warning
set; a lead of 0 that no obstruction holds takes it on to CLOSING, and, with the closed limit active, to CLOSED (R133 to
R135; log entry 20). -/
def WarningBegins (g : Fin 2) (detail : GateDetail) (s t : State) : Prop :=
  let x := s.gates[g]
  let lead :=
    if ∃ n : Fin 8, x.config.warning.getLsbD n = true ∧ s.lamps[n].fault = true then x.config.degraded
    else x.config.lead
  (0 < lead ∨ s.obstructed g = true →
    t.gates[g] = { x.resting .warning detail with leadFrom := some s.now, leadInForce := some lead }) ∧
  (lead = 0 → s.obstructed g = false →
    (s.atClosed g = false → t.gates[g] = { x.resting .closing .leadEnd with travelFrom := some s.now }) ∧
    (s.atClosed g = true → x.demand ≠ .open → t.gates[g] = { x.resting .closed .limit with retry := 0 }))

/-- Gate g, asked OPEN, begins to open with this detail; with the open limit active it is OPEN at once (R136, R137). -/
def OpeningBegins (g : Fin 2) (detail : GateDetail) (s t : State) : Prop :=
  t.gates[g] =
    if s.atOpen g then { s.gates[g].resting .opened .limit with retry := 0 }
    else { s.gates[g].resting .opening detail with travelFrom := some s.now }

/-- The standing condition of a CLOSED gate: asked OPEN it opens with this detail if the reopen condition holds, and is marked
reopen-held if it fails; asked anything else the mark is cleared (R131, R132). -/
def ClosedStands (g : Fin 2) (detail : GateDetail) (s t : State) : Prop :=
  let k := s.gates[g].config
  let may : Bool :=
    decide (s.trackers[k.tracker].state = .tracking) &&
      s.trackers[k.tracker].effective.any fun b => decide (b ≤ k.band)
  if s.gates[g].demand = .open ∧ may = true then OpeningBegins g detail s t
  else t = s.putGate g { s.gates[g] with held := decide (s.gates[g].demand = .open) }

/-- What an event of gate g leaves alone. -/
structure GateOnly (g : Fin 2) (s t : State) : Prop where
  untouched : Untouched s t
  others : ∀ j : Fin 2, j ≠ g → t.gates[j] = s.gates[j]
  pumps : t.pumps = s.pumps
  group : t.group = s.group
  allocator : t.allocator = s.allocator
  plan : t.plan = s.plan
  demands : t.demands = s.demands

/-- What gate g makes of a notice of its demand, fresh or not (R132, R134 to R138): OPEN asked CLOSE begins a warning; CLOSED
answers its standing condition; WARNING no longer asked CLOSE is called back, to OPEN with the open limit active and otherwise
to STOPPED; OPENING asked CLOSE begins a warning; STOPPED answers a fresh demand alone, its retry count 0; in every other state
the demand is only stored. -/
def GateAnswers (g : Fin 2) (fresh : Bool) (s t : State) : Prop :=
  let asked := effectiveGate s.demands.gates[g]
  let x : Gate := { s.gates[g] with demand := asked, held := s.gates[g].held && !fresh }
  let u := s.putGate g x
  GateOnly g s t ∧
  match x.state with
  | .absent | .closing | .reversing | .fault => t = u
  | .opened => if asked = .close then WarningBegins g .demand u t else t = u
  | .closed => ClosedStands g .demand u t
  | .warning =>
    if asked = .close then t = u
    else t.gates[g] = if s.atOpen g then x.resting .opened .demand else x.resting .stopped .demand
  | .opening => if asked = .close then WarningBegins g .demand u t else t = u
  | .stopped =>
    if fresh then
      match asked with
      | .close => WarningBegins g .demand (s.putGate g { x with retry := 0 }) t
      | .open => ClosedStands g .demand (s.putGate g { x with retry := 0 }) t
      | .none => t = s.putGate g { x with retry := 0 }
    else t = u

/-- What gate g makes of a change of its reopen tracker: OPEN and CLOSED answer their standing conditions, a gate that opens
with detail REOPEN (R132). -/
def ReopenAnswers (g : Fin 2) (s t : State) : Prop :=
  GateOnly g s t ∧
  match s.gates[g].state with
  | .opened => if s.gates[g].demand = .close then WarningBegins g .demand s t else t = s
  | .closed => ClosedStands g .reopen s t
  | .absent | .warning | .closing | .opening | .reversing | .stopped | .fault => t = s

/-- What the Lamp Controller makes of a zone's new scene: the targets of the zone's GENERAL channels, each the lesser of its
level and the cap of the shed stage; nothing else changes (R147). -/
def ZoneAnswers (z : Fin 4) (s t : State) : Prop :=
  { t with lamps := s.lamps } = s ∧
    ∀ c : Fin 8,
      t.lamps[c] =
        if s.lamps[c].config.role = .general ∧ s.lamps[c].config.zone = z then
          { s.lamps[c] with
            target := min s.scenes[effectiveScene s.demands.zones[z]][c] (stageCap s.allocator.stage s.lamps[c].config) }
        else s.lamps[c]

/-- What an owner makes of the effective demand it is told, its gate having received a fresh demand or not. -/
def Answers (fresh : Fin 2 → Prop) (o : Owner) (s t : State) : Prop :=
  match o with
  | .pumps => GroupAnswers { s with group := { s.group with demand := effectivePumps s.demands.pumps } } t
  | .gate g => (fresh g → GateAnswers g true s t) ∧ (¬fresh g → GateAnswers g false s t)
  | .zone z => ZoneAnswers z s t

/-- Who is told at the end of an event: an owner whose effective demand differs from the one before, a gate with a fresh
demand, and the pumps at a change of plan (R101). -/
def IsTold (before after : Demands) (fresh : Fin 2 → Prop) (planChanged : Prop) (o : Owner) : Prop :=
  match o with
  | .pumps => planChanged ∨ effectivePumps after.pumps ≠ effectivePumps before.pumps
  | .gate g => fresh g ∨ effectiveGate after.gates[g] ≠ effectiveGate before.gates[g]
  | .zone z => effectiveScene after.zones[z] ≠ effectiveScene before.zones[z]

/-- One answer after another. -/
def InTurn (answer : Owner → State → State → Prop) : List Owner → State → State → Prop
  | [], s, t => t = s
  | o :: os, s, t => ∃ u, answer o s u ∧ InTurn answer os u t

/-- Every owner that has something to be told is told once, and answers, in some order; an order among several uses up one
free value (R101; log entry 6). `s` holds the new demands, `before` the old ones. -/
def OwnersTold (before : Demands) (fresh : Fin 2 → Prop) (planChanged : Prop) (s t : State) : Prop :=
  ∃ os : List Owner, os.Nodup ∧ (∀ o, o ∈ os ↔ IsTold before s.demands fresh planChanged o) ∧
    InTurn (Answers fresh) os { s with arbiter := if os.length ≤ 1 then s.arbiter else s.arbiter + 1 } t

/-- What the EVENT items of a piece of work leave of the ACTION source: the last code with its entry, and a count of all of
them (R88, R164). -/
def ActionTold (items : List (Fin 64 × Item)) (s t : State) : Prop :=
  (∀ (code : Byte) (e : Fin 64), lastEvent items = some (code, e) → s.enabled actionSource = true →
    t.events.records[actionSource].pending = true ∧
      t.events.records[actionSource].detail = [word code.toNat, word e.val] ∧
      t.events.records[actionSource].count =
        min ((if s.events.records[actionSource].pending then s.events.records[actionSource].count else 0) +
          (items.filter fun w => match w.2 with | .event _ => true | _ => false).length) 255) ∧
    (lastEvent items = none → t.events.records[actionSource] = s.events.records[actionSource])

/-- The gates that some of the items name: each receives a fresh demand (R88). -/
def NamedBy (items : List (Fin 64 × Item)) (g : Fin 2) : Prop := ∃ w ∈ items, ∃ v, w.2 = .gate g v

/-- What a plan change does, not itself asked for by an item: the plan in force, the demands written by the ENTER entries of the
trackers' present bands under it, the PLAN event with its cause, or with the last PLAN item that the cascade suppressed, and
the owners told (R91 to R93, R101). -/
def PlanChanged (cause : Word) (p : Fin 8) (s t : State) : Prop :=
  let items := s.cascadeItems p
  t.plan = p ∧ t.demands = items.foldl Demands.writtenBy s.demands ∧ Untouched s t ∧ ActionTold items s t ∧
    (s.enabled planSource = true →
      t.events.records[planSource].pending = true ∧
        t.events.records[planSource].detail =
          match lastPlan items with
          | none => [cause, word s.plan.val, word p.val, 0xFFFF, 0, 0xFFFF, 0xFFFF]
          | some (q, e) => [cause, word s.plan.val, word p.val, 0xFFFF, 1, word q.val, word e.val]) ∧
    ∃ events : EventSet,
      OwnersTold s.demands (NamedBy items) True { s with plan := t.plan, demands := t.demands, events := events } t

/-- The demands with every supervisory part removed (R99). -/
def Demands.automaticAlone (d : Demands) : Demands :=
  { pumps := { d.pumps with supervisory := none }
    gates := Vector.ofFn fun g => { d.gates[g] with supervisory := none }
    zones := Vector.ofFn fun z => { d.zones[z] with supervisory := none } }

/-- The demands with every hold one second shorter (R98). -/
def Demands.shortened (d : Demands) : Demands :=
  { pumps := { d.pumps with supervisory := counted d.pumps.supervisory }
    gates := Vector.ofFn fun g => { d.gates[g] with supervisory := counted d.gates[g].supervisory }
    zones := Vector.ofFn fun z => { d.zones[z] with supervisory := counted d.zones[z].supervisory } }

/-- Some supervisory part satisfies a test of its hold. -/
def Demands.SomeHold (d : Demands) (test : Nat → Prop) : Prop :=
  (∃ v, d.pumps.supervisory = some v ∧ test v.hold) ∨ (∃ (g : Fin 2) (v : _), d.gates[g].supervisory = some v ∧ test v.hold) ∨
    ∃ (z : Fin 4) (v : _), d.zones[z].supervisory = some v ∧ test v.hold

/-- What happens from s to t while a command of this header is carried out, its Reply Queue entry reserved (R18, R23); the
entry apart, which its reply takes. -/
def During (h : CellHeader) (happens : State → State → Prop) (s t : State) : Prop :=
  ∃ u, happens (reserveReply (replyTo h) s) u ∧ t = { u with replies := s.replies }

/-! ## What follows a change of a tracker (R76) -/

/-- The events of tracker i going from record o to record x, raised in s: TRK at a change of state and again at a change of
alarm, with the new state, phase, active source, loss counter and alarm; BAND at a change of the effective band, with the old
and new effective band, the level band and the estimate (R76, R165; the two TRK events: log entry 13; the phase: log entry 33).
-/
def State.retell (s : State) (i : Fin 4) (o x : Tracker) : State :=
  let trk : List Word :=
    [trackerStateCode x.state, if x.state = .acquire then (if x.phase = .fast then 0 else 1) else 0xFFFF,
      match x.active with | .primary => 0 | .secondary => 1 | .none => 0xFFFF,
      word x.loss, if x.alarm then 1 else 0]
  let moved := if o.state = x.state then s else raise ⟨9 + i.val, by omega⟩ trk s
  let alarmed := if o.alarm = x.alarm then moved else raise ⟨9 + i.val, by omega⟩ trk moved
  if o.effective = x.effective then alarmed
  else raise ⟨13 + i.val, by omega⟩ [bandWord o.effective, bandWord x.effective, bandWord x.band, word x.estimate] alarmed

/-- The state with the trackers' new records and the events of what changed. -/
def State.retracked (s : State) (after : Vector Tracker 4) : State :=
  (List.finRange 4).foldl (fun u i => u.retell i s.trackers[i] after[i]) { s with trackers := after }

/-- Which notices a change of tracker i from o to x calls for: its band change to the Action Unit, its state or effective band
to the gates that name it, its state or level band to the pump group whose sump it is in one notice (R76, R87, R115, R132; log
entry 14). -/
def State.CallsFor (s : State) (i : Fin 4) (o x : Tracker) (n : Notice) : Prop :=
  (o.effective ≠ x.effective ∧ n = .band i o.effective x.effective) ∨
    ((o.state ≠ x.state ∨ o.effective ≠ x.effective) ∧ ∃ g : Fin 2, s.gates[g].config.tracker = i ∧ n = .reopen g) ∨
    ((o.state ≠ x.state ∨ o.band ≠ x.band) ∧ s.group.config.sump = i ∧ n = .sump)

/-- The notices for which a test holds are delivered, each once, in some order; an order among several uses up one free value
(log entry 6). -/
def Delivered (called : Notice → Prop) (s t : State) : Prop :=
  ∃ ns : List Notice, ns.Nodup ∧ (∀ n, n ∈ ns ↔ called n) ∧
    t = ns.foldl deliver { s with arbiter := if ns.length ≤ 1 then s.arbiter else s.arbiter + 1 }

/-- From s to t the trackers' records change to those of t, the events of that are raised, and the notices it calls for are
delivered with these others. -/
def Followed (others : Notice → Prop) (s t : State) : Prop :=
  Delivered (fun n => others n ∨ ∃ i : Fin 4, s.CallsFor i s.trackers[i] t.trackers[i] n) (s.retracked t.trackers) t

/-- No notice. -/
def NoNotice (_ : Notice) : Prop := False

/-! ## The deficit procedure (R160) -/

/-- The deficit procedure. Within the active budget nothing happens. Above it, in order and no further than the load needs: the
general lighting is cut to shed stage 1, then to stage 2, then running pumps are stopped with cause LOAD_STOP, the one with the
most run seconds first, the lower number first among equals; the release timer restarts unless a start waits for load, and a
change of stage raises SHED with cause DEFICIT (R121, R160, R161). -/
def DeficitMet (s t : State) : Prop :=
  (s.committed ≤ s.activeBudget → t = s) ∧
  (s.activeBudget < s.committed →
    let stage :=
      if s.allocator.stage = 0 then (if s.committedAt 1 ≤ s.activeBudget then 1 else 2)
      else if s.allocator.stage = 1 then 2
      else s.allocator.stage
    let load := if stage = s.allocator.stage then s.committed else s.committedAt stage
    let runs (p : Fin 4) : Bool := decide (s.pumps[p].state ∈ [PumpState.starting, .running, .runOn])
    let draws (p : Fin 4) : Nat :=
      if s.pumps[p].state = .starting then s.pumps[p].config.start else s.pumps[p].config.rated
    let stoppedBefore (p : Fin 4) : Nat :=
      (((List.finRange 4).filter fun q =>
        runs q && decide (s.pumps[p].runSeconds.toNat < s.pumps[q].runSeconds.toNat ∨
          s.pumps[q].runSeconds = s.pumps[p].runSeconds ∧ q < p)).map draws).sum
    t.allocator =
        { s.allocator with
          stage := stage, releaseFrom := if s.group.waiting then none else some s.now } ∧
      (∀ c : Fin 8,
        let l := s.lamps[c]
        let cap := stageCap stage l.config
        t.lamps[c] =
          if l.config.role = .warn ∨ stage = s.allocator.stage then l
          else
            { l with
              target := min s.scenes[effectiveScene s.demands.zones[l.config.zone]][c] cap, output := min l.output cap,
              limited := l.limited && decide (l.output ≤ cap), lastChange := if cap < l.output then s.now else l.lastChange }) ∧
      (∀ p : Fin 4,
        t.pumps[p] =
          if runs p = true ∧ s.activeBudget + stoppedBefore p < load then
            { s.pumps[p] with state := .idle, cause := some .loadStop, confirmFrom := none, runOnFrom := none }
          else s.pumps[p]) ∧
      t.events.records[shedSource] =
        (if stage = s.allocator.stage then s
        else raise shedSource [word stage, word s.allocator.stage, 1, word t.committed] s).events.records[shedSource] ∧
      t.group = s.group ∧ t.gates = s.gates ∧ t.plan = s.plan ∧ t.demands = s.demands ∧ Untouched s t)

/-- The supply taken afresh: the mode from its input, the deficit procedure, the SUPPLY event if the mode differs, and, where a
pump was stopped, the group decision (R155, R156, R160; the decision: log entry 19). -/
def SupplyTaken (s t : State) : Prop :=
  let mode : SupplyMode := if s.inputActive s.allocator.budget.supply then .standby else .mains
  ∃ u v : State,
    DeficitMet { s with allocator := { s.allocator with mode := mode } } u ∧
      v =
        (if mode = s.allocator.mode then u
        else
          raise supplySource
            [if mode = .mains then 0 else 1, if s.allocator.mode = .mains then 0 else 1,
              word (if mode = .mains then s.allocator.budget.mains else s.allocator.budget.standby), word u.committed,
              word u.allocator.stage] u) ∧
      if ∃ p : Fin 4, s.pumps[p].runOutput = true ∧ u.pumps[p].runOutput = false then GroupAnswers v t else t = v

/-! ## The tail of a departing good frame (R15) -/

/-- The beacon that is due, under the base of the departing frame: four estimates, GOOD in ACQUIRE and TRACKING (R12, R167). -/
def State.beaconCandidate (s : State) : List Word :=
  [composeA kindSample 7, s.loop.tailBase + 0x00F0, s.beacon.sequence ++ (4 : Byte)] ++
    (List.finRange 4).map fun i : Fin 4 =>
      if s.trackers[i].state = .acquire ∨ s.trackers[i].state = .tracking then word s.trackers[i].estimate
      else word s.trackers[i].estimate ||| 0x8000

/-- The event of source n as the j-th to leave with this frame (R12, R166). -/
def State.eventCandidate (s : State) (j : Nat) (n : Fin 22) : List Word :=
  let r := s.events.records[n]
  [composeA kindEvent (6 + r.detail.length), s.loop.tailBase + 0x00E0,
    (s.events.sequence + BitVec.ofNat 8 j) ++ BitVec.ofNat 8 r.detail.length,
    BitVec.ofNat 8 n.val ++ BitVec.ofNat 8 r.count, s.time.seconds.extractLsb' 16 16,
    s.time.seconds.extractLsb' 0 16] ++ r.detail

/-- The pending sources in number order (R166). -/
def State.pendingSources (s : State) : List (Fin 22) := (List.finRange 22).filter fun n => s.events.records[n].pending

/-- What may leave with a good frame, in the order of the insertion arbiter: the completed replies, oldest first; the beacon,
if due; the pending events, lowest source first (R15). -/
def State.candidates (s : State) : List (List Word) :=
  s.replies.completed ++ (if s.beacon.due then [s.beaconCandidate] else []) ++
    s.pendingSources.mapIdx s.eventCandidate

/-! ## The laws -/

/-- The request a one-shot slot holds, as the Reply Queue entry reserved for it (R37). -/
def OneShot.reserved : OneShot → List ReplyTo
  | .empty => []
  | .waiting _ reply | .inFlight _ reply => [reply]

/-- The Reply Queue holds at most 8 entries, and between commands its only reserved entry is the one of the request in
the one-shot slot (R23, R37). -/
def State.ReplyLaw (s : State) : Prop :=
  s.replies.size ≤ 8 ∧ s.replies.reserved = s.converter.slot.reserved

/-- A tracker's loss counter lies in 0 to 15, and its alarm is set while the counter is above the threshold (R77). -/
def State.LossLaw (s : State) : Prop :=
  ∀ t : Fin 4, s.trackers[t].loss ≤ 15 ∧
    (s.trackers[t].hold.alarmThreshold < s.trackers[t].loss → s.trackers[t].alarm = true)

/-- Committed load never exceeds the active budget (R157), with what keeps it so: the reserve lies within both budgets
(R155), the supply mode is that of the supply input (R156), no rated load is above its start load (6.1), the shed stage
is 0 to 2, and each GENERAL output and target lies within the cap of the stage (R147, R150). -/
def State.LoadLaw (s : State) : Prop :=
  s.committed ≤ s.activeBudget ∧ s.reservePart ≤ s.allocator.budget.mains ∧
    s.reservePart ≤ s.allocator.budget.standby ∧ s.allocator.mode = s.supplyMode ∧
    (∀ p : Fin 4, s.pumps[p].config.rated ≤ s.pumps[p].config.start) ∧ s.allocator.stage ≤ 2 ∧
    ∀ c : Fin 8, s.lamps[c].config.floor ≤ 255 ∧
      (s.lamps[c].config.role = .general →
        s.lamps[c].output ≤ stageCap s.allocator.stage s.lamps[c].config ∧
          s.lamps[c].target ≤ stageCap s.allocator.stage s.lamps[c].config)

/-- The warning sets hold WARN channels (R127), each channel's forcing set is the gates that force it, and a WARN
channel stands at 255 while it is forced and at 0 otherwise (R130, R148). -/
def State.WarningLaw (s : State) : Prop :=
  (∀ (g : Fin 2) (c : Fin 8), s.gates[g].config.warning.getLsbD c = true → s.lamps[c].config.role = .warn) ∧
    (∀ (g : Fin 2) (c : Fin 8),
      s.lamps[c].forcing.getLsbD g = (s.gates[g].state.forces && s.gates[g].config.warning.getLsbD c)) ∧
    ∀ c : Fin 8, s.lamps[c].config.role = .warn →
      s.lamps[c].output = (if s.lamps[c].forcing = 0 then 0 else 255) ∧ s.lamps[c].target = s.lamps[c].output

/-- No two valid action entries have equal keys and intersecting plan sets (R85). -/
def State.OverlapLaw (s : State) : Prop :=
  ∀ e f : Fin 64, e ≠ f → s.actions[e].valid = true → s.actions[f].valid = true →
    s.actions[e].tracker = s.actions[f].tracker → s.actions[e].band = s.actions[f].band →
    s.actions[e].edge = s.actions[f].edge → s.actions[e].plans &&& s.actions[f].plans = 0

/-- What the pump group and each gate were last told is the effective demand of their record (R94, R101), and while the loop
is LOST no record holds a supervisory part (R96, R99). -/
def State.DemandLaw (s : State) : Prop :=
  s.group.demand = effectivePumps s.demands.pumps ∧
    (∀ g : Fin 2, s.gates[g].demand = effectiveGate s.demands.gates[g]) ∧
    (s.loop.state = .lost →
      s.demands.pumps.supervisory = none ∧ (∀ g : Fin 2, s.demands.gates[g].supervisory = none) ∧
        ∀ z : Fin 4, s.demands.zones[z].supervisory = none)

/-- While dry protection is in force every run output is off (R114). -/
def State.DryLaw (s : State) : Prop := s.dryInForce = true → ∀ p : Fin 4, s.pumps[p].runOutput = false

/-- Every level the block holds lies in 0 to 16383: analog values, slot values, estimates, history (3.4, 1.5, 4.3, R68);
a tracker's level band is U exactly in FREERUN, otherwise one of its bands (R58, R71); and its effective band is the one that
the level band, the surge flag and the float input make (R73). -/
def State.LevelLaw (s : State) : Prop :=
  (∀ i : Fin 16, s.analog[i].value ≤ 16383) ∧ (∀ j : Fin 8, s.slots[j].value ≤ 16383) ∧
    ∀ t : Fin 4, s.trackers[t].estimate ≤ 16383 ∧ (∀ h ∈ s.trackers[t].ring, h.level ≤ 16383) ∧
      s.trackers[t].effective = s.trackers[t].effectiveBand (s.inputActive s.trackers[t].hold.floatInput) ∧
      match s.trackers[t].band with
      | none => s.trackers[t].state = .freerun
      | some b => s.trackers[t].state ≠ .freerun ∧ b ≤ s.trackers[t].thresholds.length

/-- A frame with the check word of R3 over its header and body at its end. -/
def Checked (frame : List Word) : Prop := ∃ words : List Word, frame = words ++ [checkWord words]

/-- Every frame that leaves the part carries a correct check word (R3); a good frame waiting has at most 120 words of
body and a damaged one at most 127 (R2), and so has a frame that leaves. -/
def State.FrameLaw (s : State) : Prop :=
  (∀ f, s.loop.reception = some f → f.body.length ≤ if f.good then 120 else 127) ∧
    ∀ frame, s.loop.departing = some frame → Checked frame ∧ frame.length ≤ 129

/-- A source is pending exactly when it has occurrences to report, at most 255, and its detail runs to at most seven
words (R164, R165). -/
def State.EventLaw (s : State) : Prop :=
  ∀ n : Fin 22, s.events.records[n].count ≤ 255 ∧ s.events.records[n].detail.length ≤ 7 ∧
    (s.events.records[n].pending = true ↔ 1 ≤ s.events.records[n].count)

/-- The timer of each gate state runs in that state and in no other, and the retry count stays in 0 to 8 (R133 to R137);
a pump's confirm timer runs in STARTING alone and its run-on timer in RUN_ON alone (R108, R111); a start log holds at most
15 entries, the most a pump may be allowed in an hour (R119). -/
def State.TimerLaw (s : State) : Prop :=
  (∀ g : Fin 2, s.gates[g].retry ≤ 8 ∧
    (s.gates[g].leadFrom.isSome = true ↔ s.gates[g].state = .warning) ∧
    (s.gates[g].leadInForce.isSome = true ↔ s.gates[g].state = .warning) ∧
    (s.gates[g].travelFrom.isSome = true ↔ s.gates[g].state = .closing ∨ s.gates[g].state = .opening) ∧
    (s.gates[g].reverseFrom.isSome = true ↔ s.gates[g].state = .reversing)) ∧
  ∀ p : Fin 4, (s.pumps[p].confirmFrom.isSome = true ↔ s.pumps[p].state = .starting) ∧
    (s.pumps[p].runOnFrom.isSome = true ↔ s.pumps[p].state = .runOn) ∧ s.pumps[p].startLog.length ≤ 15 ∧
    s.pumps[p].config.startsPerHour ≤ 15

/-- The values that R9, R39 and R47 bound stay in their ranges: the frame timeout, the gain in use and the factory gain,
and the debounce times; and input 15 keeps its fixed configuration. -/
def State.RangeLaw (s : State) : Prop :=
  (50 ≤ s.report.timeout ∧ s.report.timeout ≤ 2000) ∧ (2048 ≤ s.gain ∧ s.gain ≤ 4095) ∧
    (2048 ≤ s.factory.gain ∧ s.factory.gain ≤ 4095) ∧ (∀ i : Fin 16, s.digital[i].config.debounce ≤ 255) ∧
    s.digital[(15 : Fin 16)].config = resetDigitalConfig 15

end Sys2Proof.Machine
end

