-- ==== Sys2Proof/Certificates/Slice0/Obligations.lean ====
section
/-! DEFINITION. The statements for the provers. -/

open Sys2Proof Sys2Proof.Machine

/-! ## The machine as a whole -/

/-- A step takes the command at the front of the queue and carries it out with the queue's rest; on an empty queue the
block idles. This is the model's own interface (log entries 3 and 24). -/
def Obligations.StepRunsTheFrontCommand : Prop :=
  (∀ (c : Instr) (rest : List Instr) (s : State), s.pending = c :: rest → step s = exec c { s with pending := rest }) ∧
    ∀ s : State, s.pending = [] → step s = .next s

/-- No command stops the block: log entry 27. None touches the queue of waiting commands, which is the model's own (log
entries 3, 24 and 25). None changes the two values of the Factory Store (3.3). -/
def Obligations.EveryCommandAnswers : Prop :=
  ∀ (c : Instr) (s : State), ∃ t, exec c s = .next t ∧ t.pending = s.pending ∧ t.factory = s.factory

/-! ## Resets -/

/-- MASTER_RESET: what each block holds after it (1.7, 2.3, 3.7, 4.13, 5.6, 6.9, 7.4, 8.6, 9.6, 10.5). That the frame command
state is clear is log entry 7. -/
def Obligations.MasterResetValues : Prop :=
  ∀ (straps : Byte) (levels : Word) (s : State), ∃ t, exec (.masterReset straps levels) s = .next t ∧
    (t.loop =
      { state := .lost, timerFrom := none, lastGood := none, lostAt := t.now, damaged := 0, discarded := 0,
        straps := straps, tailBase := straps ++ (0 : Byte), reception := none, departing := none } ∧
      t.unit = { queueFullSeen := false, refusalSeen := false }) ∧
    (t.tags[(0 : Fin 16)] =
        { valid := true, base := straps ++ (0 : Byte), mask := 0x00FF, kinds := 0x0002, disposition := .execute,
          slot := 0, element := 0 } ∧
      (∀ n : Fin 16, n ≠ 0 → t.tags[n].valid = false) ∧
      ∀ j : Fin 8, t.slots[j] = { filled := false, value := 0, quality := .invalid, sequence := 0, arrival := 0 }) ∧
    (t.replies.reserved = [] ∧ t.replies.completed = []) ∧
    (t.converter =
        { inFlight := none, scanList := [], position := 0, restart := false, slot := .empty } ∧
      t.gain = s.factory.gain ∧ t.factory = s.factory) ∧
    (∀ i : Fin 16, t.analog[i] =
      { config := { role := .none, zero := 0, scale := 0, floor := 0 }, raw := 0, corrected := 0, value := 0,
        quality := .invalid, cause := .noRole, time := none }) ∧
    (∀ i : Fin 16, t.digital[i].config = resetDigitalConfig i ∧
      t.digital[i].level = levels.getLsbD i ∧
      t.digital[i].raw = (levels.getLsbD i != t.digital[i].config.activeLow) ∧
      t.digital[i].filtered = t.digital[i].raw ∧ t.digital[i].run = 0 ∧ t.digital[i].changed = false) ∧
    (∀ i : Fin 4,
      t.trackers[i].config =
        { primary := none, secondary := none, acquireShift := 2, trackShift := 5, stepLimit := 65535,
          lockThreshold := 50, lockTime := 10, unlockCount := 3, sampleTimeout := 2000 } ∧
      t.trackers[i].hold =
        { history := 8, timeout := 600, window := 10, surgeRate := 0, surgeHysteresis := 60, offsetLimit := 100,
          bleed := 1, revertTime := 30, floatInput := none, floatBand := 0, alarmThreshold := 3 } ∧
      t.trackers[i].thresholds = [] ∧ t.trackers[i].state = .freerun ∧ t.trackers[i].active = .none ∧
      t.trackers[i].accumulator = 0 ∧ t.trackers[i].estimate = 0 ∧ t.trackers[i].offset = 0 ∧
      t.trackers[i].band = none ∧ t.trackers[i].effective = none ∧ t.trackers[i].surge = false ∧
      t.trackers[i].rate = 0 ∧ t.trackers[i].rateValid = false ∧ (∀ h ∈ t.trackers[i].ring, h.valid = false) ∧
      t.trackers[i].watch = none ∧ t.trackers[i].loss = 0 ∧ t.trackers[i].alarm = false) ∧
    (t.plan = 0 ∧ (∀ e : Fin 64, t.actions[e].valid = false) ∧ t.demands = resetDemands) ∧
    (∀ p : Fin 4, t.pumps[p].config = (resetPump p).config ∧ t.pumps[p].state = .disabled ∧ t.pumps[p].cause = none ∧
      t.pumps[p].confirmFrom = none ∧ t.pumps[p].runOnFrom = none ∧ t.pumps[p].runStart = none ∧
      t.pumps[p].startLog = [] ∧ t.pumps[p].runSeconds = 0) ∧
    t.group =
      { config := { sump := 0, dryBand := none, stagger := 10 }, lastStart := t.now, reason := .none, waiting := false,
        demand := 0 } ∧
    (∀ g : Fin 2, t.gates[g].config = (resetGate g).config ∧ t.gates[g].state = .absent ∧ t.gates[g].detail = none ∧
      t.gates[g].demand = .none ∧ t.gates[g].retry = 0 ∧ t.gates[g].held = false) ∧
    (∀ c : Fin 8, t.lamps[c].config = resetLamp.config ∧ t.lamps[c].output = 0 ∧ t.lamps[c].target = 0 ∧
      t.lamps[c].forcing = 0 ∧ t.lamps[c].limited = false ∧ t.lamps[c].lastChange = t.now ∧ t.lamps[c].fault = false ∧
      t.lamps[c].verdict = .none ∧ t.lamps[c].count = 0 ∧ t.lamps[c].measured = none ∧ t.lamps[c].expected = none) ∧
    (∀ (n : Fin 16) (c : Fin 8), t.scenes[n][c] = 0) ∧
    (t.allocator =
        { budget := { mains := 65535, standby := 65535, supply := none, release := 60, isolation := none },
          mode := .mains, stage := 0, releaseFrom := none, writtenAt := none } ∧
      t.committed = 0) ∧
    (t.report = { period := 0, timeout := 200, enables := 0x2FFFFF#22 } ∧
      t.events.records = Vector.replicate 22 { pending := false, detail := [], count := 0 } ∧ t.events.sequence = 0 ∧
      t.beacon = { counter := 0, due := false, sequence := 0 }) ∧
    t.time.seconds = 0

/-- LINE_RESET: the moving parts at rest, the Reply Queue with its own DONE reply alone, and the tables, the clock, the
loop, the lamp outputs and the frame command state kept (1.7, 2.3, 3.7, 4.13, 5.6, 6.9, 7.4, 8.6, 9.6, 10.5). That the frame
command state is kept is log entry 7. -/
def Obligations.LineResetValues : Prop :=
  ∀ (h : CellHeader) (s : State), Accepted h s → ∃ t, exec (.lineReset h []) s = .next t ∧
    t.replies = { reserved := [], completed := [replyCell (replyTo h) .done []] } ∧
    (∀ i : Fin 4, t.trackers[i].state = .freerun ∧ t.trackers[i].band = none ∧ t.trackers[i].active = .none ∧
      t.trackers[i].accumulator = 0 ∧ t.trackers[i].estimate = 0 ∧ t.trackers[i].offset = 0 ∧
      t.trackers[i].lockFrom = none ∧ t.trackers[i].sampleFrom = none ∧ t.trackers[i].watch = none ∧
      t.trackers[i].unlockRun = 0 ∧ t.trackers[i].holdSeconds = 0 ∧ t.trackers[i].holdLevel = 0 ∧
      t.trackers[i].rate = 0 ∧ t.trackers[i].rateValid = false ∧ t.trackers[i].lastRate = none ∧
      (∀ x ∈ t.trackers[i].ring, x.valid = false) ∧ t.trackers[i].surge = false ∧
      t.trackers[i].effective =
        (if s.inputActive s.trackers[i].hold.floatInput then some s.trackers[i].hold.floatBand else none) ∧
      t.trackers[i].config = s.trackers[i].config ∧ t.trackers[i].hold = s.trackers[i].hold ∧
      t.trackers[i].thresholds = s.trackers[i].thresholds ∧ t.trackers[i].loss = s.trackers[i].loss ∧
      t.trackers[i].alarm = s.trackers[i].alarm) ∧
    (t.plan = 0 ∧ t.demands = resetDemands) ∧
    (∀ p : Fin 4, t.pumps[p].runOutput = false ∧
      t.pumps[p].state = (if s.pumps[p].runOutput then .idle else s.pumps[p].state) ∧
      t.pumps[p].cause = (if s.pumps[p].runOutput then none else s.pumps[p].cause) ∧
      t.pumps[p].confirmFrom = none ∧ t.pumps[p].runOnFrom = none ∧ t.pumps[p].runStart = none ∧
      t.pumps[p].config = s.pumps[p].config ∧ t.pumps[p].startLog = s.pumps[p].startLog ∧
      t.pumps[p].runSeconds = s.pumps[p].runSeconds) ∧
    t.group = { s.group with reason := .none, waiting := false, demand := 0 } ∧
    (∀ g : Fin 2, t.gates[g].openDrive = false ∧ t.gates[g].closeDrive = false ∧ t.gates[g].retry = 0 ∧
      t.gates[g].demand = .none ∧ t.gates[g].held = false ∧ t.gates[g].config = s.gates[g].config ∧
      t.gates[g].leadFrom = none ∧ t.gates[g].leadInForce = none ∧ t.gates[g].travelFrom = none ∧
      t.gates[g].reverseFrom = none ∧ t.gates[g].state.forces = s.gates[g].state.forces ∧
      if s.gates[g].state ∈ [GateState.warning, .closing, .reversing, .opening] then
        t.gates[g].state = .stopped ∧ t.gates[g].detail = none
      else t.gates[g].state = s.gates[g].state ∧ t.gates[g].detail = s.gates[g].detail) ∧
    (∀ c : Fin 8, t.lamps[c] =
      { s.lamps[c] with
        target :=
          match s.lamps[c].config.role with
          | .general => min s.scenes[(0 : Fin 16)][c] 255
          | .warn => if s.lamps[c].forcing = 0 then 0 else 255
        limited := false, verdict := .none, count := 0, measured := none, expected := none }) ∧
    (t.allocator.stage = 0 ∧ t.allocator.releaseFrom = none ∧
      t.allocator.mode = (if s.inputActive s.allocator.budget.supply then .standby else .mains) ∧
      t.allocator.budget = s.allocator.budget ∧ t.allocator.writtenAt = s.allocator.writtenAt) ∧
    (t.converter.slot = .empty ∧ t.converter.scanList = s.converter.scanList ∧
      (s.converter.inFlight ≠ none → t.converter.inFlight = s.converter.inFlight ∧ t.converter.restart = true) ∧
      (s.converter.inFlight = none →
        t.converter.inFlight =
          (s.converter.scanList[0]?).map fun i => { input := i, kind := .scan, start := s.now })) ∧
    (∀ j : Fin 8, t.slots[j].filled = false) ∧
    (∀ i : Fin 16, t.digital[i] = { s.digital[i] with changed := false }) ∧
    (t.events.records = Vector.replicate 22 { pending := false, detail := [], count := 0 } ∧ t.events.sequence = 0 ∧
      t.beacon = { counter := 0, due := false, sequence := 0 }) ∧
    (t.time = s.time ∧ t.loop = s.loop ∧ t.tags = s.tags ∧ t.unit = s.unit ∧ t.gain = s.gain ∧
      t.factory = s.factory ∧ t.analog = s.analog ∧ t.actions = s.actions ∧ t.scenes = s.scenes ∧
      t.report = s.report)

/-- R13, whole: both resets empty every slot; an empty slot is valid for no tracker; the first capture into it fills it
whatever its sequence number. -/
def Obligations.ResetsEmptyTheSlots : Prop :=
  (∀ (straps : Byte) (levels : Word) (s : State), ∃ t, exec (.masterReset straps levels) s = .next t ∧
    ∀ j : Fin 8, t.slots[j] = { filled := false, value := 0, quality := .invalid, sequence := 0, arrival := 0 }) ∧
  (∀ (h : CellHeader) (s : State), Accepted h s → ∃ t, exec (.lineReset h []) s = .next t ∧
    ∀ j : Fin 8, t.slots[j] = { filled := false, value := 0, quality := .invalid, sequence := 0, arrival := 0 }) ∧
  (∀ (s : State) (j : Fin 8) (now timeout : Nat), s.slots[j].filled = false →
    validSample now timeout (s.lastSample (some (.slot j))) = false) ∧
  ∀ (e : TagEntry) (cell : List Word) (s : State) (w : Word), s.slots[e.slot].filled = false →
    (elements cell)[e.element.val]? = some w →
    (capture e cell s).slots[e.slot].filled = true ∧
      (capture e cell s).slots[e.slot].sequence = cellSequence cell ∧
      (capture e cell s).slots[e.slot].value = elementValue w

/-! ## The Loop Interface -/

/-- FRAME_RECEIVED of a good frame with an empty body: the frame timeout restarts, the frame command state is cleared, the
loop is UP, with the LOOP event if it was LOST, the station base of its departure is taken from entry 0 as it stands, and the
frame waits (1.2, 1.3, 1.4, 2.1, 10.2). That the station base is taken at the acceptance is log entry 28. -/
def Obligations.EmptyGoodFrameAccepted : Prop :=
  ∀ (header : Word) (s : State), s.loop.reception = none → headerDamaged header = false → headerLength header = 0 →
    exec (.frameReceived [header, checkWord [header]]) s =
      .next
        (let up : State :=
          { s with
            loop :=
              { s.loop with
                state := .up, timerFrom := some s.now, lastGood := some s.now,
                tailBase := s.tags[(0 : Fin 16)].base &&& 0xFF00 }
            unit := { queueFullSeen := false, refusalSeen := false } }
        let told : State :=
          if s.loop.state = .lost then
            raise loopSource
              [word (min ((s.now - s.loop.lostAt) / 1000) 65535), word s.loop.damaged, word s.loop.discarded] up
          else up
        { told with loop := { told.loop with reception := some { good := true, header := header, body := [] } } })

/-- FRAME_RECEIVED of a frame that is not good: a damaged one is held with the body received and nothing else changes, a
truncated one leaves no trace. DISCARDED_FRAME counts the frame, saturating at 65535, and FRAME_SENT frees the downstream
port; nothing else changes (1.1, 1.2). That the damaged-frame count does not rise at the reception is log entry 8; that a
truncated frame leaves no trace whether the buffer is free or not is log entry 9. -/
def Obligations.FramesHeldCountedAndSent : Prop :=
  (∀ (header check : Word) (body rest : List Word) (s : State), s.loop.reception = none →
    headerLength header = body.length → body.length ≤ 120 →
    (headerDamaged header = true ∨ check ≠ checkWord (header :: body)) →
    exec (.frameReceived (header :: body ++ check :: rest)) s =
      .next { s with loop := { s.loop with reception := some { good := false, header := header, body := body } } }) ∧
  (∀ (header check : Word) (body : List Word) (s : State), s.loop.reception = none → 120 < headerLength header →
    exec (.frameReceived (header :: body ++ [check])) s =
      .next
        { s with
          loop := { s.loop with reception := some { good := false, header := header, body := body.take 127 } } }) ∧
  (∀ (header : Word) (words : List Word) (s : State),
    (headerLength header ≤ 120 ∧ words.length ≤ headerLength header ∨ 120 < headerLength header ∧ words = []) →
    exec (.frameReceived (header :: words)) s = .next s) ∧
  (∀ s : State, s.loop.reception.isSome = true →
    exec .discardedFrame s = .next { s with loop := { s.loop with discarded := min (s.loop.discarded + 1) 65535 } }) ∧
  ∀ s : State, exec .frameSent s = .next { s with loop := { s.loop with departing := none } }

/-- FRAME_DEPARTURE of a damaged frame: its body as received, its damaged flag set, the check word recomputed, nothing
appended, and the damaged-frame count up by 1. That the count rises at the departure is log entry 8. -/
def Obligations.DamagedFrameDeparts : Prop :=
  ∀ (f : HeldFrame) (s : State), s.loop.departing = none → s.loop.reception = some f → f.good = false →
    ∃ header : Word, headerDamaged header = true ∧
      (f.body.length ≤ 127 → headerLength header = f.body.length) ∧
      (∀ k, 7 ≤ k → k < 15 → header.getLsbD k = f.header.getLsbD k) ∧
      exec .frameDeparture s =
        .next
          { s with
            loop :=
              { s.loop with
                reception := none
                departing := some (header :: f.body ++ [checkWord (header :: f.body)])
                damaged := min (s.loop.damaged + 1) 65535 } }

/-- FRAME_DEPARTURE of a good frame. What may leave with it is, in order: the completed replies, oldest first; the beacon, if
due; the pending events, lowest source number first, their sequence numbers counting on. Its tail is the longest run of these
from the first that fits in 120 body words: at the first that does not fit nothing else leaves. What leaves is cleared at its
owner, with the changed set for INPUT; the Beacon Generator counts the departure; the frame goes with its body, its tail and a
correct check word; and nothing else changes (1.6, 10.3, 10.4). That the tags are made of the station base taken at the frame's
acceptance is log entry 28. -/
def Obligations.GoodFrameDeparts : Prop :=
  ∀ (f : HeldFrame) (s : State), s.loop.departing = none → s.loop.reception = some f → f.good = true →
    f.body.length ≤ 120 →
    let counts (b : Beacon) : Beacon :=
      if s.report.period = 0 ∨ b.due = true then b
      else if s.report.period ≤ b.counter + 1 then { b with due := true, counter := 0 }
      else { b with counter := b.counter + 1 }
    ∃ (t : State) (header : Word) (m : Nat),
      let tail := (s.candidates.take m).flatten
      let events := m - s.replies.completed.length - if s.beacon.due then 1 else 0
      let left := s.pendingSources.take events
      exec .frameDeparture s = .next t ∧ m ≤ s.candidates.length ∧
      (headerDamaged header = false ∧ headerLength header = f.body.length + tail.length ∧
        f.body.length + tail.length ≤ 120 ∧ ∀ k, 7 ≤ k → k < 15 → header.getLsbD k = f.header.getLsbD k) ∧
      (m < s.candidates.length → 120 < f.body.length + (s.candidates.take (m + 1)).flatten.length) ∧
      t.loop =
        { s.loop with
          reception := none
          departing := some (header :: (f.body ++ tail) ++ [checkWord (header :: (f.body ++ tail))]) } ∧
      t.replies = { reserved := s.replies.reserved, completed := s.replies.completed.drop m } ∧
      t.beacon =
        counts
          (if s.beacon.due = true ∧ s.replies.completed.length < m then
            { counter := 0, due := false, sequence := s.beacon.sequence + 1 }
          else s.beacon) ∧
      t.events =
        { records :=
            Vector.ofFn fun n => if n ∈ left then { pending := false, detail := [], count := 0 } else s.events.records[n]
          sequence := s.events.sequence + BitVec.ofNat 8 events } ∧
      (∀ i : Fin 16, t.digital[i] = { s.digital[i] with changed := s.digital[i].changed && decide (20 ∉ left) }) ∧
      { t with
        loop := s.loop, replies := s.replies, events := s.events, digital := s.digital, beacon := s.beacon } = s

/-- FRAME_DEPARTURE of a good frame with room for 13 words and no completed reply: a due beacon leaves, with the four
estimates, GOOD in ACQUIRE and TRACKING; a sole pending source leaves, with its latched detail, and its record is cleared,
with the changed set for INPUT; and the Beacon Generator counts the departure (1.4, 10.3, 10.4). That the tags are made of the
station base taken at the frame's acceptance is log entry 28. -/
def Obligations.BeaconAndEventLeave : Prop :=
  ∀ (f : HeldFrame) (s : State), s.loop.departing = none → s.loop.reception = some f → f.good = true →
    f.body.length ≤ 107 → s.replies.completed = [] →
    let counts (b : Beacon) : Beacon :=
      if s.report.period = 0 ∨ b.due = true then b
      else if s.report.period ≤ b.counter + 1 then { b with due := true, counter := 0 }
      else { b with counter := b.counter + 1 }
    (s.beacon.due = true → (∀ n : Fin 22, s.events.records[n].pending = false) →
      ∃ (t : State) (header : Word) (cell : List Word), exec .frameDeparture s = .next t ∧
        cell =
          [composeA kindSample 7, s.loop.tailBase + 0x00F0, s.beacon.sequence ++ (4 : Byte)] ++
            (List.finRange 4).map (fun i : Fin 4 =>
              if s.trackers[i].state = .acquire ∨ s.trackers[i].state = .tracking then word s.trackers[i].estimate
              else word s.trackers[i].estimate ||| 0x8000) ∧
        headerLength header = f.body.length + 7 ∧
        t.loop.departing = some (header :: (f.body ++ cell) ++ [checkWord (header :: (f.body ++ cell))]) ∧
        t.beacon = counts { counter := 0, due := false, sequence := s.beacon.sequence + 1 } ∧
        t.events = s.events ∧ t.digital = s.digital) ∧
    ∀ n : Fin 22, s.beacon.due = false → s.events.records[n].detail.length ≤ 7 →
      (∀ m : Fin 22, s.events.records[m].pending = decide (m = n)) →
      ∃ (t : State) (header : Word) (cell : List Word), exec .frameDeparture s = .next t ∧
        cell =
          [composeA kindEvent (6 + s.events.records[n].detail.length), s.loop.tailBase + 0x00E0,
            s.events.sequence ++ BitVec.ofNat 8 s.events.records[n].detail.length,
            BitVec.ofNat 8 n.val ++ BitVec.ofNat 8 s.events.records[n].count,
            s.time.seconds.extractLsb' 16 16, s.time.seconds.extractLsb' 0 16] ++ s.events.records[n].detail ∧
        headerLength header = f.body.length + 6 + s.events.records[n].detail.length ∧
        t.loop.departing = some (header :: (f.body ++ cell) ++ [checkWord (header :: (f.body ++ cell))]) ∧
        t.beacon = counts s.beacon ∧
        t.events =
          { records := s.events.records.set n { pending := false, detail := [], count := 0 },
            sequence := s.events.sequence + 1 } ∧
        ∀ i : Fin 16, t.digital[i] = { s.digital[i] with changed := s.digital[i].changed && decide (n ≠ 20) }

/-- FRAME_TIMEOUT: the loop is LOST with its timer stopped. Where an isolation plan other than the one in force is configured it
is put in force, and the ENTER entries of the trackers' present bands under it write the automatic parts of the demands; every
supervisory part is removed. The two follow the loss in some order, and each tells the owners of what it changed: the removal
here, the plan change under SET_PLAN (1.3, 5.1, 5.4, 5.5). The order is log entry 6. -/
def Obligations.FrameTimeoutLosesTheLoop : Prop :=
  (∀ s : State, s.timeoutDue = true →
    let lost : State := { s with loop := { s.loop with state := .lost, timerFrom := none, lostAt := s.now } }
    let switched : Option (Fin 8) := s.allocator.budget.isolation.filter fun p => decide (p ≠ s.plan)
    let written := ((switched.map s.cascadeItems).getD []).foldl Demands.writtenBy s.demands
    ∃ t, exec .frameTimeout s = .next t ∧
      t.loop = lost.loop ∧ t.plan = s.allocator.budget.isolation.getD s.plan ∧ t.demands = written.automaticAlone ∧
      Delivered
        (fun n =>
          (∃ p, switched = some p ∧ n = .isolation p) ∨ s.demands.SomeHold (fun _ => True) ∧ n = .removal)
        lost t ∧
      Untouched lost t) ∧
  ∀ s : State,
    OwnersTold s.demands (fun _ => False) False { s with demands := s.demands.automaticAlone } (deliver s .removal)

/-- FRAME_RECEIVED of a good frame with cells in it. One SAMPLE cell that a CAPTURE entry decides: the slot takes the element
unless it is absent or a duplicate, every tracker that names the slot takes it as an arrival, and the cell is forwarded as it
came. One COMMAND cell that an EXECUTE or EXECUTE_FORWARD entry decides: it is offered to the Command Unit, and forwarded as a
VOID of its length if an EXECUTE entry consumed it, as it came if EXECUTE_FORWARD, with the not-taken flag if it was not taken;
what follows it in the body, malformed, is forwarded as it came. Two COMMAND cells are offered in body order. A cell that no
entry decides, of another kind, under PASS, a SAMPLE cell under EXECUTE or EXECUTE_FORWARD and a COMMAND cell under CAPTURE
have no effect and are forwarded as they came, and so is a body whose first cell is malformed (1.1, 1.2, 1.4, 1.5, 2.1, 4.1,
4.3, 4.4, 4.5, 4.7, 4.10, 4.11). Which command a code selects is free: log entry 5; the order of the trackers' notices is log
entry 6, and the events and the one sump notice of a change are log entries 13, 14 and 33. -/
def Obligations.SampleCaptured : Prop :=
  (∀ (header a tag c : Word) (payload : List Word) (e : TagEntry) (s : State),
    s.loop.reception = none → headerDamaged header = false → headerLength header = payload.length + 3 →
    payload.length ≤ 21 → cellKind a = 3 → cellLength a = payload.length + 3 →
    s.decidingEntry 3 tag = some e → e.disposition = .capture →
    ∃ t, exec (.frameReceived (header :: a :: tag :: c :: payload ++ [checkWord (header :: a :: tag :: c :: payload)])) s =
        .next t ∧
      t.loop.reception = some { good := true, header := header, body := a :: tag :: c :: payload } ∧
      t.loop.state = .up ∧ t.loop.timerFrom = some s.now ∧
      match (payload.take (lowByte c).toNat)[e.element.val]? with
      | none => t.slots = s.slots ∧ t.trackers = s.trackers
      | some w =>
        if s.slots[e.slot].filled = true ∧ s.slots[e.slot].sequence = highByte c then
          t.slots = s.slots ∧ t.trackers = s.trackers
        else
          let taken : Slot :=
            { filled := true, value := min (w.toNat % 32768) 16383,
              quality := if w.getLsbD 15 then .invalid else .good, sequence := highByte c, arrival := s.now }
          t.slots = s.slots.set e.slot taken ∧
            Fed (.slot e.slot) taken.value taken.quality { s with slots := s.slots.set e.slot taken } t ∧
            ∃ u : State, Followed NoNotice { s.framed with slots := s.slots.set e.slot taken } u ∧
              t =
                { u with
                  loop :=
                    { u.loop with reception := some { good := true, header := header, body := a :: tag :: c :: payload } } }) ∧
  (∀ (header a tag c : Word) (payload rest : List Word) (e : TagEntry) (s : State),
    s.loop.reception = none → headerDamaged header = false →
    headerLength header = payload.length + 3 + rest.length → payload.length ≤ 21 →
    payload.length + 3 + rest.length ≤ 120 → cellKind a = 1 → cellLength a = payload.length + 3 →
    s.decidingEntry 1 tag = some e → (e.disposition = .execute ∨ e.disposition = .executeForward) →
    (rest = [] ∨ MalformedFrom rest) →
    let words : List Word := header :: (a :: tag :: c :: payload ++ rest)
    ∃ t, exec (.frameReceived (words ++ [checkWord words])) s = .next t ∧
      t.loop.reception =
        some { good := true, header := header,
               body := leftBehind e.disposition (decide (s.replies.size < 8)) a (tag :: c :: payload) ++ rest } ∧
      { t with loop := { t.loop with reception := none } } =
        offer (Config.commandOfCode (lowByte c)) (commandHeader a tag c) payload s.framed) ∧
  (∀ (header : Word) (body : List Word) (s : State),
    s.loop.reception = none → headerDamaged header = false → headerLength header = body.length → body.length ≤ 120 →
    (MalformedFrom body ∨ ∃ (a tag c : Word) (payload : List Word), body = a :: tag :: c :: payload ∧
      payload.length ≤ 21 ∧ cellLength a = payload.length + 3 ∧ cellKind a ≤ 4 ∧
      ((cellKind a = 1 ∨ cellKind a = 3) → ∀ e, s.decidingEntry (cellKind a) tag = some e →
        e.disposition = .pass ∨ cellKind a = 1 ∧ e.disposition = .capture ∨
          cellKind a = 3 ∧ (e.disposition = .execute ∨ e.disposition = .executeForward))) →
    exec (.frameReceived (header :: body ++ [checkWord (header :: body)])) s =
      .next
        { s.framed with
          loop := { s.framed.loop with reception := some { good := true, header := header, body := body } } }) ∧
  ∀ (header a tag c a' tag' c' : Word) (payload payload' : List Word) (e e' : TagEntry) (s u : State),
    s.loop.reception = none → headerDamaged header = false →
    headerLength header = payload.length + 3 + (payload'.length + 3) →
    payload.length ≤ 21 → payload'.length ≤ 21 → cellKind a = 1 → cellLength a = payload.length + 3 →
    cellKind a' = 1 → cellLength a' = payload'.length + 3 →
    s.decidingEntry 1 tag = some e → (e.disposition = .execute ∨ e.disposition = .executeForward) →
    s.decidingEntry 1 tag' = some e' → (e'.disposition = .execute ∨ e'.disposition = .executeForward) →
    u = offer (Config.commandOfCode (lowByte c)) (commandHeader a tag c) payload s.framed →
    let words : List Word := header :: (a :: tag :: c :: payload ++ a' :: tag' :: c' :: payload')
    ∃ t, exec (.frameReceived (words ++ [checkWord words])) s = .next t ∧
      t.loop.reception =
        some { good := true, header := header,
               body :=
                leftBehind e.disposition (decide (s.replies.size < 8)) a (tag :: c :: payload) ++
                  leftBehind e'.disposition u.canTake a' (tag' :: c' :: payload') } ∧
      { t with loop := { t.loop with reception := none } } =
        offer (Config.commandOfCode (lowByte c')) (commandHeader a' tag' c') payload' u

/-- The entry that decides a cell is the lowest-numbered valid one that accepts its kind and whose base equals its tag in
every bit its mask compares; where there is none, no entry decides it (1.4). -/
def Obligations.LowestMatchingEntryDecides : Prop :=
  ∀ (s : State) (kind : Nat) (tag : Word),
    (∀ e, s.decidingEntry kind tag = some e ↔
      ∃ n : Fin 16, s.tags[n] = e ∧
        (e.valid = true ∧ e.kinds.getLsbD kind = true ∧
          ∀ b, b < 16 → e.mask.getLsbD b = false → tag.getLsbD b = e.base.getLsbD b) ∧
        ∀ m : Fin 16, m < n →
          ¬(s.tags[m].valid = true ∧ s.tags[m].kinds.getLsbD kind = true ∧
            ∀ b, b < 16 → s.tags[m].mask.getLsbD b = false → tag.getLsbD b = s.tags[m].base.getLsbD b)) ∧
    (s.decidingEntry kind tag = none ↔
      ∀ m : Fin 16,
        ¬(s.tags[m].valid = true ∧ s.tags[m].kinds.getLsbD kind = true ∧
          ∀ b, b < 16 → s.tags[m].mask.getLsbD b = false → tag.getLsbD b = s.tags[m].base.getLsbD b))

/-- R94, whole: how the two parts of each demand make its effective value. -/
def Obligations.EffectiveDemands : Prop :=
  (∀ (n : Nat) (e : Option (Fin 64)) (v : Supervisory Nat),
    effectivePumps { automatic := n, entry := e, supervisory := none } = n ∧
      effectivePumps { automatic := n, entry := e, supervisory := some v } = max n v.value) ∧
  (∀ (a : GateDemand) (e : Option (Fin 64)) (v : Option (Supervisory GateDemand)),
    let part := (v.map fun x => x.value).getD .none
    effectiveGate { automatic := a, entry := e, supervisory := v } =
      if a = .close ∨ part = .close then .close else if a = .open ∨ part = .open then .open else .none) ∧
  ∀ (n : Fin 16) (e : Option (Fin 64)) (v : Option (Supervisory (Fin 16))),
    effectiveScene { automatic := n, entry := e, supervisory := v } = (v.map fun x => x.value).getD n

/-! ## Taking commands -/

/-- Every command row. With the loop UP it is the offer of its cell to the Command Unit; with the loop LOST it is the offer in
the good frame that brings the loop UP (log entry 4). The cell is not taken while queue-full seen is set or the Reply Queue
holds 8 entries; it is cancelled after a refusal; and it is refused at the first failing check of transaction number, known
code, maintenance flag without the key, and maintenance privilege, each with no other effect (2.1, 2.2). -/
def Obligations.CommandsTurnedAway : Prop :=
  (∀ (c : Instr) (name : CommandName) (h : CellHeader) (payload : List Word) (s : State),
    offered c = some (name, h, payload) →
    (s.loop.state = .lost → exec c s = exec c s.framed) ∧
    (s.loop.state = .up →
      exec c s = .next (offer (some name) h payload s) ∧
      (s.canTake = false → exec c s = .next { s with unit := { s.unit with queueFullSeen := true } }) ∧
      (s.canTake = true → s.unit.refusalSeen = true → exec c s = .next (s.replied h .cancelled [])) ∧
      (s.canTake = true → s.unit.refusalSeen = false →
        (h.transaction = 0 → exec c s = .next (s.refused h .range)) ∧
        (h.transaction ≠ 0 → h.maintenance = true → s.maintenanceKey = false →
          exec c s = .next (s.refused h .privilege)) ∧
        (h.transaction ≠ 0 → h.maintenance = false → needsMaintenance name payload = true →
          exec c s = .next (s.refused h .privilege))))) ∧
  ∀ (h : CellHeader) (payload : List Word) (s : State),
    (s.canTake = false → offer none h payload s = { s with unit := { s.unit with queueFullSeen := true } }) ∧
    (s.canTake = true → s.unit.refusalSeen = true → offer none h payload s = s.replied h .cancelled []) ∧
    (s.canTake = true → s.unit.refusalSeen = false →
      offer none h payload s = s.refused h (if h.transaction = 0 then .range else .unknown))

/-- The forms of the command rows that are refused by their own checks: with RANGE for a wrong number of operand words, an
unknown table, block, item, kind or value, or a record the table does not accept; with BUSY, OVERLAP, FULL or STATE by the
present state of their item. Each refusal changes nothing but the Reply Queue and refusal seen
(2.2, 2.5, 2.6, 3.2, 5.2, 6.1, 6.2, 7.1, 7.4, 8.1). Which records a table accepts is said, word by word, with its WRITE. -/
def Obligations.RefusedForms : Prop :=
  ∀ (h : CellHeader) (s : State), Accepted h s →
    (∀ (c : Instr) (name : CommandName) (payload : List Word), offered c = some (name, h, payload) →
      (needsMaintenance name payload = true → h.maintenance = true) →
      (if name = .write then payload.length < operandCount name else payload.length ≠ operandCount name) →
      exec c s = .next (s.refused h .range)) ∧
    (∀ table index : Word, readTable table = none → exec (.read h [table, index]) s = .next (s.refused h .range)) ∧
    (∀ (table index : Word) (T : Table), readTable table = some T → s.record T index = none →
      exec (.read h [table, index]) s = .next (s.refused h .range)) ∧
    (∀ block index : Word, statusRecord block index s = none →
      exec (.status h [block, index]) s = .next (s.refused h .range)) ∧
    (∀ t w edge p : Word, (4 ≤ t.toNat ∨ readBand w = none ∨ 1 < edge.toNat ∨ 8 ≤ p.toNat) →
      exec (.find h [t, w, edge, p]) s = .next (s.refused h .range)) ∧
    ((∀ i : Word, 16 ≤ i.toNat → exec (.eraseTag h [i]) s = .next (s.refused h .range)) ∧
      (∀ i : Word, 64 ≤ i.toNat → exec (.eraseAction h [i]) s = .next (s.refused h .range)) ∧
      (∀ p : Word, 8 ≤ p.toNat → exec (.setPlan h [p]) s = .next (s.refused h .range)) ∧
      (∀ target value hold : Word,
        (7 ≤ target.toNat ∨ 1 ≤ target.toNat ∧ target.toNat ≤ 2 ∧ 2 < value.toNat ∨
          3 ≤ target.toNat ∧ 15 < value.toNat) →
        exec (.demand h [target, value, hold]) s = .next (s.refused h .range)) ∧
      (∀ target : Word, 7 ≤ target.toNat → exec (.release h [target]) s = .next (s.refused h .range)) ∧
      (∀ g : Word, 2 ≤ g.toNat → exec (.gateStop h [g]) s = .next (s.refused h .range)) ∧
      (∀ p : Word, 4 ≤ p.toNat → exec (.clearFaultPump h [p]) s = .next (s.refused h .range)) ∧
      (∀ g : Word, 2 ≤ g.toNat → exec (.clearFaultGate h [g]) s = .next (s.refused h .range)) ∧
      (∀ c : Word, 8 ≤ c.toNat → exec (.clearFaultLamp h [c]) s = .next (s.refused h .range)) ∧
      (∀ t : Word, 4 ≤ t.toNat → exec (.clearAlarm h [t]) s = .next (s.refused h .range)) ∧
      (∀ i : Word, 16 ≤ i.toNat → exec (.convert h [i]) s = .next (s.refused h .range)) ∧
      (h.maintenance = true → ∀ t a b : Word, 4 ≤ t.toNat →
        exec (.forceLevel h [t, a]) s = .next (s.refused h .range) ∧
        exec (.unforce h [t]) s = .next (s.refused h .range) ∧
        exec (.presetRunSeconds h [t, a, b]) s = .next (s.refused h .range) ∧
        exec (.presetLossCounter h [t, a, b]) s = .next (s.refused h .range))) ∧
    (∀ (i : Word) (record : List Word),
      ((i = 0 → h.maintenance = true) → (∀ n : Fin 16, i = word n.val → readTag record = none) →
        exec (.writeTag h (i :: record)) s = .next (s.refused h .range)) ∧
      ((∀ n : Fin 64, i = word n.val ∨ i = 0xFFFF → readAction record = none) →
        exec (.writeAction h (i :: record)) s = .next (s.refused h .range)) ∧
      ((∀ n : Fin 16, i = word n.val → readScene record = none) →
        exec (.writeScene h (i :: record)) s = .next (s.refused h .range)) ∧
      ((∀ n : Fin 4, i = word n.val → readThresholds record = none) →
        exec (.writeThreshold h (i :: record)) s = .next (s.refused h .range)) ∧
      ((∀ n : Fin 4, i = word n.val → readTracker s record = none) →
        exec (.writeTracker h (i :: record)) s = .next (s.refused h .range)) ∧
      ((∀ n : Fin 4, i = word n.val → readHold record = none) →
        exec (.writeTrackerHold h (i :: record)) s = .next (s.refused h .range)) ∧
      ((∀ n : Fin 16, i = word n.val → readAnalog s n record = none) →
        exec (.writeAnalog h (i :: record)) s = .next (s.refused h .range)) ∧
      ((∀ n : Fin 16, i = word n.val → readDigital n record = none) →
        exec (.writeDigital h (i :: record)) s = .next (s.refused h .range)) ∧
      ((i = 0 → readScan record = none) → exec (.writeScan h (i :: record)) s = .next (s.refused h .range)) ∧
      ((∀ n : Fin 4, i = word n.val → readPump record = none) →
        exec (.writePump h (i :: record)) s = .next (s.refused h .range)) ∧
      ((i = 0 → readGroup record = none) → exec (.writePumpGroup h (i :: record)) s = .next (s.refused h .range)) ∧
      ((∀ n : Fin 2, i = word n.val → readGate s record = none) →
        exec (.writeGate h (i :: record)) s = .next (s.refused h .range)) ∧
      ((∀ n : Fin 8, i = word n.val → readLamp s n record = none) →
        exec (.writeLamp h (i :: record)) s = .next (s.refused h .range)) ∧
      ((i = 0 → readBudget s record = none) → exec (.writeBudget h (i :: record)) s = .next (s.refused h .range)) ∧
      ((i = 0 → readReport record = none) → exec (.writeReport h (i :: record)) s = .next (s.refused h .range)) ∧
      (h.maintenance = true → (i = 0 → readGain record = none) →
        exec (.writeGain h (i :: record)) s = .next (s.refused h .range))) ∧
    (∀ input : Word, input.toNat < 16 → s.converter.slot ≠ .empty →
      exec (.convert h [input]) s = .next (s.refused h .busy)) ∧
    (∀ (e : Fin 64) (record : List Word) (x : ActionEntry), readAction record = some x →
      s.overlaps (some e) x = true → exec (.writeAction h (word e.val :: record)) s = .next (s.refused h .overlap)) ∧
    (∀ (record : List Word) (x : ActionEntry), readAction record = some x →
      (s.overlaps none x = true → exec (.writeAction h (0xFFFF :: record)) s = .next (s.refused h .overlap)) ∧
      (s.overlaps none x = false → (∀ e : Fin 64, s.actions[e].valid = true) →
        exec (.writeAction h (0xFFFF :: record)) s = .next (s.refused h .full))) ∧
    (∀ (p : Fin 4) (record : List Word) (k : PumpConfig), readPump record = some k → s.pumps[p].runOutput = true →
      exec (.writePump h (word p.val :: record)) s = .next (s.refused h .state)) ∧
    (∀ (g : Fin 2) (record : List Word) (k : GateConfig), readGate s record = some k →
      s.gates[g].state ∈ [.warning, .closing, .opening, .reversing] →
      exec (.writeGate h (word g.val :: record)) s = .next (s.refused h .state)) ∧
    (∀ (c : Fin 8) (record : List Word) (k : LampConfig), readLamp s c record = some k →
      (s.lamps[c].output ≠ 0 ∨
        reserveLoad s.lamps[c].config < reserveLoad k ∧
          s.activeBudget < s.committed - reserveLoad s.lamps[c].config + reserveLoad k) →
      exec (.writeLamp h (word c.val :: record)) s = .next (s.refused h .state)) ∧
    (∀ p : Fin 4, s.pumps[p].state = .locked →
      (s.inputActive s.pumps[p].config.fault = true ∨ s.pumps[p].config.available = false) →
      exec (.clearFaultPump h [word p.val]) s = .next (s.refused h .state)) ∧
    (∀ g : Fin 2, s.gates[g].state = .fault → s.atOpen g = true → s.atClosed g = true →
      exec (.clearFaultGate h [word g.val]) s = .next (s.refused h .state)) ∧
    (∀ t : Fin 4, h.maintenance = true → s.trackers[t].state ≠ .forced →
      exec (.unforce h [word t.val]) s = .next (s.refused h .state))

/-! ## Reading -/

/-- READ, STATUS and FIND answer and change nothing else. READ gives the index and the record stored. STATUS gives the record
of the item, which is spelled here word by word for every block. FIND gives the index of the valid entry with the key whose
plan set holds the plan, or 0xFFFF (1.3, 1.4, 2.5, 2.6, 3.4, 3.6, 4.12, 5.5, 6.8, 7.4, 8.6, 9.6). That the seconds in HOLDOVER
wrap in their word is log entry 32; that the seconds since the last start are whole ones is log entry 29; the codes of the loop
state are log entry 17, and the station base it shows is log entry 28. -/
def Obligations.ReadsAnswer : Prop :=
  ∀ (h : CellHeader) (s : State), Accepted h s →
    (∀ (table index : Word) (T : Table) (record : List Word), readTable table = some T →
      s.record T index = some record →
      exec (.read h [table, index]) s = .next (s.answered h (index :: record))) ∧
    (∀ (block index : Word) (record : List Word), statusRecord block index s = some record →
      exec (.status h [block, index]) s = .next (s.answered h record)) ∧
    (∀ i : Fin 4,
      let x := s.trackers[i]
      exec (.status h [0, word i.val]) s = .next (s.answered h
        [match x.state with | .freerun => 0 | .acquire => 1 | .tracking => 2 | .holdover => 3 | .forced => 4,
          if x.state = .acquire then (if x.phase = .fast then 0 else 1) else 0xFFFF,
          match x.active with | .primary => 0 | .secondary => 1 | .none => 0xFFFF,
          word x.estimate, word (x.accumulator / 65536), word x.accumulator, BitVec.ofInt 16 x.offset,
          BitVec.ofInt 16 x.rate, if x.rateValid then 1 else 0, (x.band.map fun b => word b).getD 0x00FF,
          (x.effective.map fun b => word b).getD 0x00FF, if x.surge then 1 else 0,
          if s.inputActive x.hold.floatInput then 1 else 0, word x.loss, if x.alarm then 1 else 0,
          if x.state = .acquire then word ((x.lockFrom.map fun m => min (s.now - m) 65535).getD 0) else 0,
          word x.unlockRun, if x.state = .holdover then word x.holdSeconds else 0,
          if x.state = .holdover then word x.holdLevel else 0,
          (if validSample s.now x.config.sampleTimeout (s.lastSample x.config.primary) then 1 else 0) +
            if validSample s.now x.config.sampleTimeout (s.lastSample x.config.secondary) then 2 else 0])) ∧
    (∀ p : Fin 4,
      let x := s.pumps[p]
      exec (.status h [1, word p.val]) s = .next (s.answered h
        [match x.state with
          | .disabled => 0 | .idle => 1 | .starting => 2 | .running => 3 | .runOn => 4 | .locked => 5,
          match x.cause with
          | none => 0xFFFF | some .demand => 0 | some .feedback => 1 | some .runOnEnd => 2 | some .failToStart => 3
          | some .runLost => 4 | some .tripped => 5 | some .dryStop => 6 | some .loadStop => 7 | some .cleared => 8
          | some .config => 9,
          if x.state ∈ [PumpState.starting, .running, .runOn] then 1 else 0,
          if s.digital[x.config.feedback].filtered then 1 else 0, if s.inputActive x.config.fault then 1 else 0,
          word (x.runSeconds.toNat / 65536), word x.runSeconds.toNat, word x.startLog.length,
          (x.startLog.head?.map fun e => word (e + 3601 - s.time.seconds).toNat).getD 0,
          if x.state = .starting then word ((x.confirmFrom.map fun m => min (s.now - m) 65535).getD 0)
          else if x.state = .runOn then word ((x.runOnFrom.map fun m => min (s.now - m) 65535).getD 0)
          else 0,
          if x.state ∈ [PumpState.running, .runOn] then
            word ((x.runStart.map fun r => min (s.time.seconds - r).toNat 65535).getD 0)
          else 0])) ∧
    (∀ g : Fin 2,
      let x := s.gates[g]
      let d := s.demands.gates[g]
      let code (v : GateDemand) : Word := match v with | .none => 0 | .open => 1 | .close => 2
      exec (.status h [3, word g.val]) s = .next (s.answered h
        [match x.state with
          | .absent => 0 | .opened => 1 | .warning => 2 | .closing => 3 | .closed => 4 | .opening => 5 | .reversing => 6
          | .stopped => 7 | .fault => 8,
          match x.detail with
          | none => 0xFFFF | some .demand => 0 | some .leadEnd => 1 | some .limit => 2 | some .obstruction => 3
          | some .retry => 4 | some .obstructed => 5 | some .travel => 6 | some .limits => 7 | some .stop => 8
          | some .cleared => 9 | some .config => 10 | some .drift => 11 | some .reopen => 12,
          if x.state ∈ [GateState.opening, .reversing] then 1 else 0, if x.state = .closing then 1 else 0,
          if s.digital[x.config.openLimit].filtered then 1 else 0,
          if s.digital[x.config.closedLimit].filtered then 1 else 0,
          if s.inputActive x.config.obstruction then 1 else 0, word x.retry,
          if x.state = .warning then word (x.leadInForce.getD 0) else 0,
          word (((if x.state = .warning then x.leadFrom
              else if x.state = .closing ∨ x.state = .opening then x.travelFrom
              else if x.state = .reversing then x.reverseFrom
              else none).map fun m => min (s.now - m) 65535).getD 0),
          if x.held then 1 else 0,
          if s.trackers[x.config.tracker].state = .tracking ∧
              s.trackers[x.config.tracker].effective.any (fun b => decide (b ≤ x.config.band)) = true then 1 else 0,
          code d.automatic, (d.entry.map fun e => word e.val).getD 0xFFFF, if d.supervisory.isSome then 1 else 0,
          (d.supervisory.map fun v => code v.value).getD 0, (d.supervisory.map fun v => word v.hold).getD 0,
          code (effectiveGate d)])) ∧
    (∀ c : Fin 8,
      let l := s.lamps[c]
      let d := s.demands.zones[l.config.zone]
      exec (.status h [4, word c.val]) s = .next (s.answered h
        ([if l.config.role = .general then 0 else 1, word l.config.zone.val, word l.output, word l.target,
          if l.limited then 1 else 0, BitVec.setWidth 16 l.forcing, if l.fault then 1 else 0,
          match l.verdict with | .none => 0 | .pass => 1 | .fail => 2,
          word l.count, (l.measured.map fun n => word n).getD 0xFFFF, (l.expected.map fun n => word n).getD 0xFFFF,
          word (min (s.now - l.lastChange) 65535)] ++
        if l.config.role = .general then
          [word d.automatic.val, (d.entry.map fun e => word e.val).getD 0xFFFF, if d.supervisory.isSome then 1 else 0,
            (d.supervisory.map fun v => word v.value.val).getD 0, (d.supervisory.map fun v => word v.hold).getD 0,
            word (effectiveScene d).val]
        else [0xFFFF, 0xFFFF, 0xFFFF, 0xFFFF, 0xFFFF, 0xFFFF]))) ∧
    (∃ limited : Word,
      (∀ c : Fin 8, limited.getLsbD c = (decide (s.lamps[c].config.role = .general) && s.lamps[c].limited)) ∧
      limited.toNat < 256 ∧
      exec (.status h [5, 0]) s = .next (s.answered h
        [if s.allocator.mode = .mains then 0 else 1,
          word (if s.allocator.mode = .mains then s.allocator.budget.mains else s.allocator.budget.standby),
          word s.committed, word s.reservePart, word s.pumpPart, word s.generalPart,
          word (s.activeBudget - s.committed), word s.allocator.stage,
          (s.allocator.releaseFrom.map fun m => word ((s.now - m) / 1000)).getD 0, if s.group.waiting then 1 else 0,
          limited])) ∧
    (let d := s.demands.pumps
      let sump : Tracker := s.trackers[s.group.config.sump]
      exec (.status h [2, 0]) s = .next (s.answered h
        [word ((List.finRange 4).filter fun p : Fin 4 =>
            decide (s.pumps[p].state = .starting ∨ s.pumps[p].state = .running)).length,
          match s.group.reason with
          | .none => 0 | .noPump => 1 | .starts => 2 | .load => 3 | .dry => 4 | .masked => 5,
          if s.group.waiting then 1 else 0,
          if sump.state ≠ .freerun ∧
              (s.group.config.dryBand.any fun d => sump.band.any fun b => decide (b ≤ d)) = true then 1 else 0,
          word (min ((s.now - s.group.lastStart) / 1000) 65535),
          word ((List.finRange 4).filter fun p : Fin 4 => decide (s.pumps[p].state = .runOn)).length,
          word d.automatic, (d.entry.map fun e => word e.val).getD 0xFFFF, if d.supervisory.isSome then 1 else 0,
          (d.supervisory.map fun v => word v.value).getD 0, (d.supervisory.map fun v => word v.hold).getD 0,
          word (effectivePumps d)])) ∧
    exec (.status h [6, 0]) s = .next (s.answered h
      [if s.loop.state = .up then 0 else 1, word s.report.timeout,
        (s.loop.lastGood.map fun m => word (min (s.now - m) 65535)).getD 65535, word s.loop.damaged,
        word s.loop.discarded, s.tags[(0 : Fin 16)].base &&& 0xFF00]) ∧
    (∀ i : Fin 16,
      let a := s.analog[i]
      exec (.status h [7, word i.val]) s = .next (s.answered h
        [match a.config.role with | .none => 0 | .level => 1 | .current => 2, word a.raw, word a.corrected, word a.value,
          if a.quality = .good then 0 else 1,
          match a.cause with | .none => 0 | .overRange => 1 | .wireBreak => 2 | .noRole => 3,
          (a.time.map fun m => word (min (s.now - m) 65535)).getD 65535, word s.converter.position,
          match s.converter.slot with | .empty => 0 | .waiting _ _ => 1 | .inFlight _ _ => 2,
          match s.converter.slot with | .empty => 0xFFFF | .waiting j _ => word j.val | .inFlight j _ => word j.val])) ∧
    (∀ i : Fin 16,
      let d := s.digital[i]
      exec (.status h [7, word (16 + i.val)]) s = .next (s.answered h
        [if d.config.activeLow then 1 else 0, word d.config.debounce,
          match d.config.edges with | .none => 0 | .activate => 1 | .deactivate => 2 | .both => 3,
          if d.level then 1 else 0, if d.raw then 1 else 0, if d.filtered then 1 else 0,
          word ((if d.changed then 256 else 0) + min d.run 255)])) ∧
    exec (.status h [8, 0]) s = .next (s.answered h
      [s.loop.straps.setWidth 16, word s.factory.gain, s.factory.revision, word (s.time.seconds.toNat / 65536),
        word s.time.seconds.toNat, word s.plan.val, if s.digital[(15 : Fin 16)].filtered then 1 else 0]) ∧
    (∀ (t : Fin 4) (w : Word) (b : Band) (edge : Edge) (p : Fin 8), readBand w = some b →
      ∃ found : Word,
        exec (.find h [word t.val, w, if edge = .enter then 0 else 1, word p.val]) s = .next (s.answered h [found]) ∧
        ((∃ e : Fin 64, found = word e.val ∧ s.actions[e].valid = true ∧ s.actions[e].tracker = t ∧
            s.actions[e].band = b ∧ s.actions[e].edge = edge ∧ s.actions[e].plans.getLsbD p = true) ∨
          found = 0xFFFF ∧
            ∀ e : Fin 64, ¬(s.actions[e].valid = true ∧ s.actions[e].tracker = t ∧ s.actions[e].band = b ∧
              s.actions[e].edge = edge ∧ s.actions[e].plans.getLsbD p = true)))

/-! ## Tables -/

/-- ERASE of a TAG and of an ACTION entry makes the entry invalid, keeps its other fields and answers the index; WRITE of TAG,
ANALOG, DIGITAL and GAIN stores the record with its clamps and echoes it; nothing else changes. A TAG record is accepted and
stored as 1.4 has it. The role of an ANALOG record may change while no tracker and no lamp channel names the input; otherwise
the change is refused with RANGE (1.4, 2.5, 3.3, 3.4, 3.6, 5.2). -/
def Obligations.PlainTableCommands : Prop :=
  (∀ (h : CellHeader) (i : Fin 16) (s : State), Accepted h s → (i = 0 → h.maintenance = true) →
    exec (.eraseTag h [word i.val]) s =
      .next (State.answered { s with tags := s.tags.set i { s.tags[i] with valid := false } } h [word i.val])) ∧
  (∀ (h : CellHeader) (e : Fin 64) (s : State), Accepted h s →
    exec (.eraseAction h [word e.val]) s =
      .next (State.answered { s with actions := s.actions.set e { s.actions[e] with valid := false } } h [word e.val])) ∧
  (∀ (h : CellHeader) (i : Fin 16) (record : List Word) (e : TagEntry) (s : State), Accepted h s →
    (i = 0 → h.maintenance = true) → readTag record = some e →
    exec (.writeTag h (word i.val :: record)) s =
      .next (State.answered { s with tags := s.tags.set i e } h (word i.val :: tagWords e))) ∧
  ((∀ (record : List Word) (e : TagEntry), readTag record = some e ↔ TagRecord record e) ∧
    ∀ e : TagEntry, tagWords e =
      [if e.valid then 1 else 0, e.base, e.mask, e.kinds,
        match e.disposition with | .execute => 0 | .executeForward => 1 | .capture => 2 | .pass => 3,
        word e.slot.val, word e.element.val]) ∧
  (∀ (h : CellHeader) (i : Fin 16) (role : AnalogRole) (zero scale floor : Word) (s : State), Accepted h s →
    let code : Word := match role with | .none => 0 | .level => 1 | .current => 2
    let named : Prop :=
      (∃ j : Fin 4, s.trackers[j].config.primary = some (.analog i) ∨ s.trackers[j].config.secondary = some (.analog i)) ∨
        ∃ c : Fin 8, s.lamps[c].config.current = some i
    (role = s.analog[i].config.role ∨ ¬named →
      exec (.writeAnalog h [word i.val, code, zero, scale, floor]) s =
        .next (State.answered
          { s with
            analog :=
              s.analog.set i
                { s.analog[i] with
                  config :=
                    { role := role, zero := min zero.toNat 4095, scale := scale.toNat, floor := min floor.toNat 4095 } } }
          h [word i.val, code, word (min zero.toNat 4095), scale, word (min floor.toNat 4095)])) ∧
    (role ≠ s.analog[i].config.role → named →
      exec (.writeAnalog h [word i.val, code, zero, scale, floor]) s = .next (s.refused h .range))) ∧
  (∀ (h : CellHeader) (i : Fin 16) (low : Bool) (debounce : Word) (edges : Edges) (s : State), Accepted h s → i ≠ 15 →
    exec (.writeDigital h
        [word i.val, flagWord low, debounce,
          match edges with | .none => 0 | .activate => 1 | .deactivate => 2 | .both => 3]) s =
      .next (State.answered
        { s with
          digital :=
            s.digital.set i
              { s.digital[i] with
                config := { activeLow := low, debounce := min debounce.toNat 255, edges := edges } } }
        h [word i.val, flagWord low, word (min debounce.toNat 255),
          match edges with | .none => 0 | .activate => 1 | .deactivate => 2 | .both => 3])) ∧
  ∀ (h : CellHeader) (gain : Word) (s : State), Accepted h s → h.maintenance = true →
    exec (.writeGain h [0, gain]) s =
      .next (State.answered { s with gain := max 2048 (min gain.toNat 4095) } h
        [0, word (max 2048 (min gain.toNat 4095))])

/-- WRITE of an ACTION record that overlaps no other valid entry: stored at its index, or with ANY at the lowest-numbered
invalid entry, and nothing else changes; storing fires nothing. Two records overlap when both are valid, their keys are equal
and their plan sets intersect. Which records are accepted, and what is stored of each item, is spelled word by word (2.5, 5.2,
5.3). That a record with an empty plan set overlaps none, also where it repeats an earlier write, is log entry 31. -/
def Obligations.ActionWriteStores : Prop :=
  (∀ (h : CellHeader) (record : List Word) (x : ActionEntry) (s : State), Accepted h s → readAction record = some x →
    (∀ e : Fin 64, s.overlaps (some e) x = false →
      exec (.writeAction h (word e.val :: record)) s =
        .next (State.answered { s with actions := s.actions.set e x } h (word e.val :: actionWords x))) ∧
    ∀ e : Fin 64, s.overlaps none x = false → s.actions[e].valid = false → (∀ d : Fin 64, d < e → s.actions[d].valid = true) →
      exec (.writeAction h (0xFFFF :: record)) s =
        .next (State.answered { s with actions := s.actions.set e x } h (word e.val :: actionWords x))) ∧
  (∀ (s : State) (written : Option (Fin 64)) (x : ActionEntry),
    s.overlaps written x = true ↔
      x.valid = true ∧ ∃ e : Fin 64, written ≠ some e ∧ s.actions[e].valid = true ∧ s.actions[e].tracker = x.tracker ∧
        s.actions[e].band = x.band ∧ s.actions[e].edge = x.edge ∧
        ∃ p : Fin 8, s.actions[e].plans.getLsbD p = true ∧ x.plans.getLsbD p = true) ∧
  (∀ (record : List Word) (x : ActionEntry), readAction record = some x ↔ ActionRecord record x) ∧
  ∀ x : ActionEntry, actionWords x =
    [if x.valid then 1 else 0, word x.tracker.val, (x.band.map fun b => word b).getD 0x00FF,
      if x.edge = .enter then 0 else 1, x.plans.setWidth 16, word x.items.length] ++
    x.items.flatMap fun y =>
      match y with
      | .pumps n => [0, word n, 0]
      | .gate g v => [1, word g.val, match v with | .none => 0 | .open => 1 | .close => 2]
      | .scene z n => [2, word z.val, word n.val]
      | .plan p => [3, word p.val, 0]
      | .event code => [4, code.setWidth 16, 0]

/-- WRITE of a SCENE: the levels are stored, clamped to 255, and the target of each GENERAL channel whose zone follows the
scene becomes the lesser of its level and the cap of the shed stage; nothing else changes (8.2, 8.3). -/
def Obligations.SceneWriteStores : Prop :=
  ∀ (h : CellHeader) (n : Fin 16) (l0 l1 l2 l3 l4 l5 l6 l7 : Word) (s : State), Accepted h s →
    ∃ t : State,
      exec (.writeScene h [word n.val, l0, l1, l2, l3, l4, l5, l6, l7]) s =
        .next (t.answered h (word n.val :: [l0, l1, l2, l3, l4, l5, l6, l7].map fun l => word (min l.toNat 255))) ∧
      { t with scenes := s.scenes, lamps := s.lamps } = s ∧
      (∀ m : Fin 16, m ≠ n → t.scenes[m] = s.scenes[m]) ∧
      t.scenes[n].toList = [l0, l1, l2, l3, l4, l5, l6, l7].map (fun l => min l.toNat 255) ∧
      ∀ c : Fin 8,
        t.lamps[c] =
          if s.lamps[c].config.role = .general ∧ effectiveScene s.demands.zones[s.lamps[c].config.zone] = n then
            { s.lamps[c] with target := min t.scenes[n][c] (stageCap s.allocator.stage s.lamps[c].config) }
          else s.lamps[c]

/-- WRITE of THRESHOLD, TRACKER and TRACKER_HOLD: the record is stored; a TRACKER or TRACKER_HOLD write sends a tracker that is
not FORCED to FREERUN; a THRESHOLD write keeps the state and takes the band from scratch out of FREERUN; the effective band is
made anew. The TRK and BAND events of what changed are raised, and the notices it calls for are delivered: the band change, the
reopen notices, the sump notice. Which records are accepted, and what is stored, is spelled word by word (4.2, 4.7, 4.10). The
order of the notices is log entry 6; the events and the one sump notice of a change are log entries 13, 14 and 33. -/
def Obligations.TrackerWritesStore : Prop :=
  (∀ (h : CellHeader) (i : Fin 4) (record : List Word) (ths : List Threshold) (s : State), Accepted h s →
    readThresholds record = some ths →
    ∃ (t : State) (x : Tracker),
      exec (.writeThreshold h (word i.val :: record)) s = .next (t.answered h (word i.val :: thresholdWords ths)) ∧
      Untouched (s.putTracker i x) t ∧ x.thresholds = ths ∧ x.state = s.trackers[i].state ∧
      x.estimate = s.trackers[i].estimate ∧ x.config = s.trackers[i].config ∧ x.hold = s.trackers[i].hold ∧
      x.effective = x.effectiveBand (s.inputActive x.hold.floatInput) ∧ x.surge = s.trackers[i].surge ∧
      x.band =
        (if s.trackers[i].state = .freerun then none
        else some (ths.filter fun y => decide (y.level ≤ s.trackers[i].estimate)).length) ∧
      During h (Followed NoNotice) s t) ∧
  (∀ (h : CellHeader) (i : Fin 4) (record : List Word) (c : TrackerConfig) (s : State), Accepted h s →
    readTracker s record = some c →
    ∃ (t : State) (x : Tracker),
      exec (.writeTracker h (word i.val :: record)) s = .next (t.answered h (word i.val :: trackerWords c)) ∧
      Untouched (s.putTracker i x) t ∧ x.config = c ∧ x.hold = s.trackers[i].hold ∧
      x.thresholds = s.trackers[i].thresholds ∧
      x.effective = x.effectiveBand (s.inputActive x.hold.floatInput) ∧
      (s.trackers[i].state ≠ .forced → s.trackers[i].state ≠ .freerun →
        x.band = none ∧ x.surge = false ∧ x.estimate = 0 ∧ x.loss = s.trackers[i].loss) ∧
      x.state = (if s.trackers[i].state = .forced then .forced else .freerun) ∧
      During h (Followed NoNotice) s t) ∧
  (∀ (h : CellHeader) (i : Fin 4) (record : List Word) (c : HoldConfig) (s : State), Accepted h s →
    readHold record = some c →
    ∃ (t : State) (x : Tracker),
      exec (.writeTrackerHold h (word i.val :: record)) s = .next (t.answered h (word i.val :: holdWords c)) ∧
      Untouched (s.putTracker i x) t ∧ x.hold = c ∧ x.config = s.trackers[i].config ∧
      x.thresholds = s.trackers[i].thresholds ∧
      x.effective = x.effectiveBand (s.inputActive c.floatInput) ∧
      x.state = (if s.trackers[i].state = .forced then .forced else .freerun) ∧
      x.alarm = (s.trackers[i].alarm || decide (c.alarmThreshold < s.trackers[i].loss)) ∧
      During h (Followed NoNotice) s t) ∧
  ((∀ (record : List Word) (ths : List Threshold), readThresholds record = some ths ↔ ThresholdRecord record ths) ∧
    (∀ (s : State) (record : List Word) (c : TrackerConfig), readTracker s record = some c ↔ TrackerRecord s record c) ∧
    ∀ (record : List Word) (c : HoldConfig), readHold record = some c ↔ HoldRecord record c) ∧
  (∀ ths : List Threshold,
    thresholdWords ths = word ths.length :: ths.flatMap fun x => [word x.level, word x.hysteresis]) ∧
  (∀ c : TrackerConfig,
    let code (source : Option Source) : Word :=
      match source with | none => 0xFFFF | some (.analog i) => word i.val | some (.slot j) => word (16 + j.val)
    trackerWords c =
      [code c.primary, code c.secondary, word c.acquireShift, word c.trackShift, word c.stepLimit, word c.lockThreshold,
        word c.lockTime, word c.unlockCount, word c.sampleTimeout]) ∧
  ∀ c : HoldConfig, holdWords c =
    [word c.history, word c.timeout, word c.window, word c.surgeRate, word c.surgeHysteresis, word c.offsetLimit,
      word c.bleed, word c.revertTime, (c.floatInput.map fun i => word i.val).getD 0xFFFF, word c.floatBand,
      word c.alarmThreshold]

/-- WRITE of SCAN: while CONVERTING the list is stored and the restart flag set; when IDLE the conversion of entry 0 starts at
once, and an empty list leaves the converter IDLE. Which records are accepted, and how the list is shown, is spelled word by
word (2.5, 3.1). That the low byte after an odd last entry reads as 0 is log entry 16. -/
def Obligations.ScanWriteStores : Prop :=
  (∀ (h : CellHeader) (record : List Word) (l : List (Fin 16)) (s : State), Accepted h s → readScan record = some l →
    exec (.writeScan h (0 :: record)) s =
      .next (State.answered
        { s with
          converter :=
            match s.converter.inFlight, l with
            | some _, _ => { s.converter with scanList := l, restart := true }
            | none, [] => { s.converter with scanList := l, position := 0 }
            | none, i :: rest =>
              { s.converter with
                scanList := l, position := if rest.isEmpty then 0 else 1,
                inFlight := some { input := i, kind := .scan, start := s.now } } }
        h (0 :: scanWords l))) ∧
  (∀ (record : List Word) (l : List (Fin 16)), readScan record = some l ↔ ScanRecord record l) ∧
  ∀ l : List (Fin 16), (scanWords l).length = 1 + (l.length + 1) / 2 ∧ (scanWords l).getD 0 0 = word l.length ∧
    ∀ j : Nat, j < (l.length + 1) / 2 →
      (scanWords l).getD (j + 1) 0 =
        word (256 * (l.getD (2 * j) 0).val + (l.getD (2 * j + 1) 0).val)

/-- WRITE of PUMP to a pump that does not run, and of PUMP_GROUP: the record is stored and takes effect at once. A pump made
unavailable is DISABLED; one with an active fault input is LOCKED; a DISABLED one made available is IDLE; a LOCKED one that
stays available stays LOCKED; then the group decides, from the state so left. After a PUMP_GROUP write every running pump stops
if dry protection is in force; otherwise the group decides. A decision reclaims, starts with or without a grant, or stops pumps
by their run seconds, and leaves the unmet reason; under dry protection it starts none. Which records are accepted, and what is
stored, is spelled word by word (6.1 to 6.4, 6.6, 9.3). -/
def Obligations.PumpWritesStore : Prop :=
  (∀ (h : CellHeader) (p : Fin 4) (record : List Word) (k : PumpConfig) (s : State), Accepted h s →
    readPump record = some k → s.pumps[p].runOutput = false →
    let x := s.pumps[p]
    let becomes (state : PumpState) (cause : PumpCause) : Pump :=
      { x with config := k, state := state, cause := some cause, confirmFrom := none, runOnFrom := none }
    let written : Pump :=
      if k.available = false then (if x.state = .disabled then { x with config := k } else becomes .disabled .config)
      else if x.state = .locked then { x with config := k }
      else if s.inputActive k.fault = true then becomes .locked .tripped
      else if x.state = .disabled then becomes .idle .config
      else { x with config := k }
    ∃ t : State,
      exec (.writePump h (word p.val :: record)) s = .next (t.answered h (word p.val :: pumpWords k)) ∧
      GroupAnswers (s.putPump p written) t) ∧
  (∀ (h : CellHeader) (record : List Word) (k : GroupConfig) (s : State), Accepted h s → readGroup record = some k →
    ∃ t : State,
      exec (.writePumpGroup h (0 :: record)) s = .next (t.answered h (0 :: groupWords k)) ∧
      SumpAnswers { s with group := { s.group with config := k } } t) ∧
  ((∀ (record : List Word) (k : PumpConfig), readPump record = some k ↔ PumpRecord record k) ∧
    ∀ (record : List Word) (k : GroupConfig), readGroup record = some k ↔ GroupRecord record k) ∧
  (∀ k : PumpConfig, pumpWords k =
    [if k.available then 1 else 0, word k.feedback.val, (k.fault.map fun i => word i.val).getD 0xFFFF, word k.rated,
      word k.start, word k.confirm, word k.minimumRun, word k.runOn, word k.startsPerHour, k.planMask.setWidth 16]) ∧
  ∀ k : GroupConfig, groupWords k = [word k.sump.val, (k.dryBand.map fun b => word b).getD 0xFFFF, word k.stagger]

/-- WRITE of GATE to a gate at rest: the record is stored. A gate written absent is ABSENT; a gate in FAULT stays there; any
other takes its state from the two limit inputs that the new record names, keeping its detail where they agree with its state,
and answers its standing condition. Each WARN channel is forced by the gate exactly if it is in the new warning set and the
gate's state forces, so that channels that left the set are released; it stands at 255 while forced and at 0 otherwise, and its
time of last change moves only with its output. The other gate is left. Which records are accepted, and what is stored, is
spelled word by word (7.1, 7.2, 7.3, 7.4, 8.3). A lead of 0 that ends at the entry to WARNING is log entry 20; that the retry
count and such a detail are kept is log entry 23. -/
def Obligations.GateWriteStores : Prop :=
  (∀ (h : CellHeader) (g : Fin 2) (record : List Word) (k : GateConfig) (s : State), Accepted h s →
    readGate s record = some k → s.gates[g].state ∉ [GateState.warning, .closing, .opening, .reversing] →
    let isOpen := s.filtered k.openLimit
    let isClosed := s.filtered k.closedLimit
    let blocked := s.inputActive k.obstruction
    let may : Bool :=
      decide (s.trackers[k.tracker].state = .tracking) &&
        s.trackers[k.tracker].effective.any fun b => decide (b ≤ k.band)
    ∃ t : State,
      exec (.writeGate h (word g.val :: record)) s = .next (t.answered h (word g.val :: gateWords k)) ∧
      Untouched (s.putGate g { s.gates[g] with config := k }) t ∧
      t.plan = s.plan ∧ t.demands = s.demands ∧ t.pumps = s.pumps ∧ t.allocator = s.allocator ∧
      (∀ j : Fin 2, j ≠ g → t.gates[j] = s.gates[j]) ∧
      t.gates[g].demand = s.gates[g].demand ∧
      (k.present = false →
        t.gates[g].state = .absent ∧
          t.gates[g].detail = if s.gates[g].state = .absent then s.gates[g].detail else some .config) ∧
      (k.present = true → s.gates[g].state = .fault → t.gates[g] = { s.gates[g] with config := k }) ∧
      (k.present = true → s.gates[g].state ≠ .fault →
        (isOpen = true → isClosed = true → t.gates[g].state = .fault ∧ t.gates[g].detail = some .limits) ∧
        (isOpen = false → isClosed = false →
          t.gates[g].state = .stopped ∧
            t.gates[g].detail = if s.gates[g].state = .stopped then s.gates[g].detail else some .config) ∧
        (isOpen = true → isClosed = false →
          (s.gates[g].demand ≠ .close →
            t.gates[g].state = .opened ∧
              t.gates[g].detail = if s.gates[g].state = .opened then s.gates[g].detail else some .config) ∧
          (s.gates[g].demand = .close → (0 < s.leadAtEntry k ∨ blocked = true) →
            t.gates[g].state = .warning ∧ t.gates[g].detail = some .demand ∧ t.gates[g].leadFrom = some s.now ∧
              t.gates[g].leadInForce = some (s.leadAtEntry k)) ∧
          (s.gates[g].demand = .close → s.leadAtEntry k = 0 → blocked = false →
            t.gates[g].state = .closing ∧ t.gates[g].detail = some .leadEnd ∧ t.gates[g].travelFrom = some s.now)) ∧
        (isOpen = false → isClosed = true →
          (s.gates[g].demand ≠ .open ∨ may = false →
            t.gates[g].state = .closed ∧ t.gates[g].held = decide (s.gates[g].demand = .open) ∧
              t.gates[g].detail = if s.gates[g].state = .closed then s.gates[g].detail else some .config) ∧
          (s.gates[g].demand = .open → may = true →
            t.gates[g].state = .opening ∧ t.gates[g].detail = some .demand ∧ t.gates[g].travelFrom = some s.now))) ∧
      t.gates[g].retry = s.gates[g].retry ∧
      ∀ c : Fin 8,
        t.lamps[c].forcing.getLsbD g = (t.gates[g].state.forces && k.warning.getLsbD c) ∧
        (∀ j : Fin 2, j ≠ g → t.lamps[c].forcing.getLsbD j = s.lamps[c].forcing.getLsbD j) ∧
        (s.lamps[c].config.role = .general → { t.lamps[c] with forcing := s.lamps[c].forcing } = s.lamps[c]) ∧
        (s.lamps[c].config.role = .warn →
          t.lamps[c].output = (if t.lamps[c].forcing = 0 then 0 else 255) ∧ t.lamps[c].target = t.lamps[c].output) ∧
        (t.lamps[c].output ≠ s.lamps[c].output → t.lamps[c].lastChange = s.now) ∧
        (t.lamps[c].output = s.lamps[c].output →
          (isOpen = false ∨ isClosed = true ∨ s.gates[g].demand ≠ .close ∨ k.present = false) →
          t.lamps[c].lastChange = s.lamps[c].lastChange)) ∧
  (∀ (s : State) (record : List Word) (k : GateConfig), readGate s record = some k ↔ GateRecord s record k) ∧
  ∀ k : GateConfig, gateWords k =
    [if k.present then 1 else 0, word k.openLimit.val, word k.closedLimit.val,
      (k.obstruction.map fun i => word i.val).getD 0xFFFF, word k.travel, word k.lead, word k.degraded,
      k.warning.setWidth 16, word k.reverse, word k.retryLimit, word k.tracker.val, word k.band]

/-- WRITE of LAMP to a channel at output 0 whose rise of the reserve, if any, the active budget takes: the record is stored,
the check run and the two currents cleared, the fault kept and the target recomputed; nothing else changes. Which records are
accepted, and what is stored, is spelled word by word (8.1, 8.6). That the expected current is cleared too is log entry 30;
that the LIMITED mark is kept where the role changes is log entry 23. -/
def Obligations.LampWriteStores : Prop :=
  (∀ (h : CellHeader) (c : Fin 8) (record : List Word) (k : LampConfig) (s : State), Accepted h s →
    readLamp s c record = some k → s.lamps[c].output = 0 →
    (reserveLoad k ≤ reserveLoad s.lamps[c].config ∨
      s.committed - reserveLoad s.lamps[c].config + reserveLoad k ≤ s.activeBudget) →
    exec (.writeLamp h (word c.val :: record)) s =
      .next (State.answered
        (s.putLamp c
          { s.lamps[c] with
            config := k, verdict := .none, count := 0, measured := none, expected := none,
            target :=
              match k.role with
              | .warn => if s.lamps[c].forcing = 0 then 0 else 255
              | .general =>
                min s.scenes[effectiveScene s.demands.zones[k.zone]][c] (stageCap s.allocator.stage k) })
        h (word c.val :: lampWords k))) ∧
  (∀ (s : State) (c : Fin 8) (record : List Word) (k : LampConfig),
    readLamp s c record = some k ↔ LampRecord s c record k) ∧
  ∀ k : LampConfig, lampWords k =
    [if k.role = .general then 0 else 1, word k.zone.val, word k.fullLoad, word k.rampRate, word k.floor,
      (k.current.map fun i => word i.val).getD 0xFFFF, word k.fullCurrent, word k.tolerance]

/-- WRITE of BUDGET: the record is stored and the supply mode is taken afresh. Committed load above the active budget is met by
shed stage 1, then stage 2, then stops of pumps with cause LOAD_STOP by most run seconds, no further than the load needs, with
a SHED event; a change of mode raises SUPPLY; and committed load ends within the active budget, from any state whose shed stage
is 0 to 2 with the general lighting dark at stage 2. A release timer already at or beyond the new release time does not expire
before the next tick. Which records are accepted, and what is stored, is spelled word by word (6.6, 9.1, 9.4, 9.5). The group
decision after a pump is stopped is log entry 19. -/
def Obligations.BudgetWriteFits : Prop :=
  (∀ (h : CellHeader) (record : List Word) (b : Budget) (s : State), Accepted h s → readBudget s record = some b →
    ∃ t : State,
      exec (.writeBudget h (0 :: record)) s = .next (t.answered h (0 :: budgetWords b)) ∧
      Untouched { s with allocator := { s.allocator with budget := b, writtenAt := some s.now } } t ∧
      t.plan = s.plan ∧ t.demands = s.demands ∧ t.gates = s.gates ∧
      t.allocator.mode = (if s.inputActive b.supply then .standby else .mains) ∧
      During h SupplyTaken { s with allocator := { s.allocator with budget := b, writtenAt := some s.now } } t ∧
      ((∀ c : Fin 8, s.allocator.stage = 0 ∨ s.allocator.stage = 1 ∨
          s.allocator.stage = 2 ∧ (s.lamps[c].config.role = .general → s.lamps[c].output = 0)) →
        t.committed ≤ t.activeBudget) ∧
      exec .releaseTimerExpiry t = .next t) ∧
  (∀ (s : State) (record : List Word) (b : Budget), readBudget s record = some b ↔ BudgetRecord s record b) ∧
  ∀ b : Budget, budgetWords b =
    [word b.mains, word b.standby, (b.supply.map fun i => word i.val).getD 0xFFFF, word b.release,
      (b.isolation.map fun p => word p.val).getD 0xFFFF]

/-- WRITE of REPORT: the record is stored, a beacon is made due, and each source the record disables is cleared, with the
changed set for INPUT; every other source keeps its record (10.1). -/
def Obligations.ReportWriteStores : Prop :=
  ∀ (h : CellHeader) (period timeout low high : Word) (s : State), Accepted h s → high.toNat < 64 →
    ∃ t : State,
      exec (.writeReport h [0, period, timeout, low, high]) s =
        .next (t.answered h
          [0, word (min period.toNat 255), word (max 50 (min timeout.toNat 2000)), low, high]) ∧
      t.report =
        { period := min period.toNat 255, timeout := max 50 (min timeout.toNat 2000),
          enables := high.extractLsb' 0 6 ++ low } ∧
      t.beacon = { s.beacon with due := true } ∧ t.events.sequence = s.events.sequence ∧
      (∀ n : Fin 22, t.events.records[n] =
        if t.report.enables.getLsbD n then s.events.records[n] else { pending := false, detail := [], count := 0 }) ∧
      (∀ i : Fin 16, t.digital[i] =
        { s.digital[i] with changed := s.digital[i].changed && t.report.enables.getLsbD 20 }) ∧
      { t with report := s.report, beacon := s.beacon, events := s.events, digital := s.digital } = s

/-! ## Plans and demands -/

/-- SET_PLAN: toward the plan in force it changes nothing; toward another the plan register takes it, the items of the ENTER
entries of the trackers' present bands under the new plan write the automatic parts of their demands in tracker order, and no
demand's supervisory part changes. The PLAN event tells it, or the last PLAN item that the cascade suppressed, and the owners
are told: the group decides, each gate and each zone answers. The isolation switch does the same with its own cause (2.6, 5.1,
5.4, 5.5, 6.4, 7.4, 8.3, 10.2). The order in which the owners are told is log entry 6. -/
def Obligations.SetPlanChangesThePlan : Prop :=
  (∀ (h : CellHeader) (p : Fin 8) (s : State), Accepted h s →
    (p = s.plan → exec (.setPlan h [word p.val]) s = .next (s.answered h [word p.val])) ∧
    (p ≠ s.plan → ∃ t : State, exec (.setPlan h [word p.val]) s = .next (t.answered h [word p.val]) ∧
      t.plan = p ∧ Untouched s t ∧ During h (PlanChanged 0 p) s t ∧
      t.demands = (s.cascadeItems p).foldl Demands.writtenBy s.demands ∧
      t.demands.pumps.supervisory = s.demands.pumps.supervisory ∧
      (∀ g : Fin 2, t.demands.gates[g].supervisory = s.demands.gates[g].supervisory) ∧
      ∀ z : Fin 4, t.demands.zones[z].supervisory = s.demands.zones[z].supervisory)) ∧
  ∀ (p : Fin 8) (s : State), p ≠ s.plan → PlanChanged 2 p s (deliver s (.isolation p))

/-- DEMAND and RELEASE: the supervisory part of the record named is set or removed, and no other part of any demand changes,
nor the plan. Its owner is told if its effective demand changes, and a gate at every DEMAND for it. The pump group decides. A
gate OPEN or OPENING that is asked CLOSE begins a warning; WARNING no longer asked CLOSE is called back; CLOSED answers its
standing condition; STOPPED answers a fresh demand alone; in every other state the demand is stored. The targets of the zone's
channels are recomputed (2.6, 5.5, 6.3, 6.4, 7.3, 7.4, 8.2, 8.3). A lead of 0 that ends at its entry is log entry 20. -/
def Obligations.DemandsSetAndRelease : Prop :=
  ∀ (h : CellHeader) (s : State), Accepted h s →
    (∀ value hold : Word, ∃ t : State,
      exec (.demand h [0, value, hold]) s = .next (t.answered h [0, word (min value.toNat 4), hold]) ∧
      t.demands =
        { s.demands with
          pumps :=
            { s.demands.pumps with supervisory := some { value := min value.toNat 4, hold := hold.toNat } } } ∧
      During h (OwnersTold s.demands (fun _ => False) False) { s with demands := t.demands } t ∧
      t.plan = s.plan ∧ Untouched s t) ∧
    (∀ (g : Fin 2) (v : GateDemand) (hold : Word), ∃ t : State,
      exec (.demand h [word (1 + g.val), gateDemandCode v, hold]) s =
        .next (t.answered h [word (1 + g.val), gateDemandCode v, hold]) ∧
      t.demands =
        { s.demands with
          gates :=
            s.demands.gates.set g
              { s.demands.gates[g] with supervisory := some { value := v, hold := hold.toNat } } } ∧
      During h (GateAnswers g true) { s with demands := t.demands } t ∧
      t.plan = s.plan ∧ Untouched s t) ∧
    (∀ (z : Fin 4) (n : Fin 16) (hold : Word), ∃ t : State,
      exec (.demand h [word (3 + z.val), word n.val, hold]) s =
        .next (t.answered h [word (3 + z.val), word n.val, hold]) ∧
      t.demands =
        { s.demands with
          zones :=
            s.demands.zones.set z
              { s.demands.zones[z] with supervisory := some { value := n, hold := hold.toNat } } } ∧
      During h (OwnersTold s.demands (fun _ => False) False) { s with demands := t.demands } t ∧
      t.plan = s.plan ∧ t.pumps = s.pumps ∧ t.gates = s.gates ∧ Untouched s t) ∧
    ∀ target : DemandTarget, ∃ t : State,
      exec (.release h
          [match target with | .pumps => 0 | .gate g => word (1 + g.val) | .zone z => word (3 + z.val)]) s =
        .next (t.answered h []) ∧
      t.demands = s.demands.changeAt target (fun r => { r with supervisory := none }) ∧
      During h (OwnersTold s.demands (fun _ => False) False) { s with demands := t.demands } t ∧
      t.plan = s.plan ∧ Untouched s t

/-- HOLD_EXPIRY: at a second tick that is due, the supervisory part whose hold the tick brings to 0 is removed, and no
other part of any demand changes; its owner is told, and answers, if its effective demand changes (5.5, 6.4, 7.4, 8.3). That it
acts when the tick is due is log entry 10. -/
def Obligations.HoldExpiryRemovesThePart : Prop :=
  ∀ (target : DemandTarget) (s : State), 1000 ≤ s.time.msToSecond →
    s.demands.testAt target (fun r => r.supervisory.any fun v => v.hold == 1) = true →
    ∃ t : State, exec (.holdExpiry target) s = .next t ∧
      t.demands = s.demands.changeAt target (fun r => { r with supervisory := none }) ∧
      OwnersTold s.demands (fun _ => False) False { s with demands := t.demands } t ∧
      t.plan = s.plan ∧ Untouched s t

/-! ## Equipment -/

/-- GATE_STOP: a warning or moving gate goes to STOPPED with detail STOP, its drives off, its timers stopped and its retry
count kept; any other gate is left (7.4). -/
def Obligations.GateStopStops : Prop :=
  ∀ (h : CellHeader) (g : Fin 2) (s : State), Accepted h s →
    (s.gates[g].state ∈ [GateState.warning, .closing, .reversing, .opening] →
      ∃ t : State, exec (.gateStop h [word g.val]) s = .next (t.answered h []) ∧
        t.gates =
          s.gates.set g
            { s.gates[g] with
              state := .stopped, detail := some .stop, leadFrom := none, leadInForce := none, travelFrom := none,
              reverseFrom := none, held := false } ∧
        t.gates[g].openDrive = false ∧ t.gates[g].closeDrive = false ∧
        t.plan = s.plan ∧ t.demands = s.demands ∧ t.pumps = s.pumps ∧ t.allocator = s.allocator ∧ Untouched s t) ∧
    (s.gates[g].state ∉ [GateState.warning, .closing, .reversing, .opening] →
      exec (.gateStop h [word g.val]) s = .next (s.answered h []))

/-- CLEAR_FAULT. A LOCKED pump that is available with no active fault input goes to IDLE with cause CLEARED, and the group
decides from there. A gate in FAULT with at most one limit active takes its state from them with detail CLEARED and retry count
0: OPEN, CLOSED or STOPPED; then OPEN asked CLOSE begins a warning, and CLOSED answers its standing condition. Any other pump
or gate is left. A lamp channel has its fault flag cleared and its check run emptied in any state, with a LAMP event if the
flag changes (6.2, 6.4, 7.3, 7.4, 8.5). That its two currents stay is log entry 30; a lead of 0 that ends at its entry is log
entry 20. -/
def Obligations.FaultsCleared : Prop :=
  (∀ (h : CellHeader) (p : Fin 4) (s : State), Accepted h s →
    (s.pumps[p].state = .locked → s.inputActive s.pumps[p].config.fault = false → s.pumps[p].config.available = true →
      ∃ t : State, exec (.clearFaultPump h [word p.val]) s = .next (t.answered h []) ∧
        GroupAnswers
          (s.putPump p
            { s.pumps[p] with state := .idle, cause := some .cleared, confirmFrom := none, runOnFrom := none })
          t) ∧
    (s.pumps[p].state ≠ .locked → exec (.clearFaultPump h [word p.val]) s = .next (s.answered h []))) ∧
  (∀ (h : CellHeader) (g : Fin 2) (s : State), Accepted h s →
    (s.gates[g].state = .fault → (s.atOpen g && s.atClosed g) = false →
      ∃ t : State, exec (.clearFaultGate h [word g.val]) s = .next (t.answered h []) ∧
        t.gates[g].state ≠ .fault ∧ t.gates[g].retry = 0 ∧
        (let taken (state : GateState) : State := s.putGate g { s.gates[g].resting state .cleared with retry := 0 };
          (s.atOpen g = false → s.atClosed g = false → t.gates[g] = (taken .stopped).gates[g]) ∧
          (s.atOpen g = true → s.atClosed g = false →
            (s.gates[g].demand ≠ .close → t.gates[g] = (taken .opened).gates[g]) ∧
              (s.gates[g].demand = .close → WarningBegins g .demand (taken .opened) t)) ∧
          (s.atOpen g = false → s.atClosed g = true →
            let may : Bool :=
              decide (s.trackers[s.gates[g].config.tracker].state = .tracking) &&
                s.trackers[s.gates[g].config.tracker].effective.any fun b => decide (b ≤ s.gates[g].config.band)
            if s.gates[g].demand = .open ∧ may = true then OpeningBegins g .demand (taken .closed) t
            else t.gates[g] = { (taken .closed).gates[g] with held := decide (s.gates[g].demand = .open) })) ∧
        (∀ k : Fin 2, k ≠ g → t.gates[k] = s.gates[k]) ∧
        t.plan = s.plan ∧ t.demands = s.demands ∧ t.pumps = s.pumps ∧ t.allocator = s.allocator ∧ Untouched s t) ∧
    (s.gates[g].state ≠ .fault → exec (.clearFaultGate h [word g.val]) s = .next (s.answered h []))) ∧
  ∀ (h : CellHeader) (c : Fin 8) (s : State), Accepted h s →
    let cleared := s.putLamp c { s.lamps[c] with fault := false, verdict := .none, count := 0 }
    exec (.clearFaultLamp h [word c.val]) s =
      .next (State.answered
        (if s.lamps[c].fault then raise lampSource [cleared.lampFaultWord] cleared else cleared) h [])

/-- CONVERT: with the slot empty, an IDLE converter starts the request's conversion at once and a CONVERTING one leaves it
waiting; the entry stays reserved and nothing is answered yet (2.6, 3.2). -/
def Obligations.ConvertPlacesTheRequest : Prop :=
  ∀ (h : CellHeader) (i : Fin 16) (s : State), Accepted h s → s.converter.slot = .empty →
    let reserved : ReplyQueue :=
      { reserved := s.replies.reserved ++ [replyTo h], completed := s.replies.completed }
    (s.converter.inFlight = none →
      exec (.convert h [word i.val]) s =
        .next
          { s with
            replies := reserved
            converter :=
              { s.converter with
                slot := .inFlight i (replyTo h),
                inFlight := some { input := i, kind := .oneShot, start := s.now } } }) ∧
    (s.converter.inFlight ≠ none →
      exec (.convert h [word i.val]) s =
        .next { s with replies := reserved, converter := { s.converter with slot := .waiting i (replyTo h) } })

/-- CLEAR_ALARM clears the alarm when the counter is at or below the threshold. PRESET of a loss counter stores the value,
clamped to 15, and sets the alarm when it is above the threshold; the tracker is otherwise as it was, with its effective band
made anew from the same parts, and what changed is followed by its events and notices. PRESET of a pump's run seconds stores
the 32-bit value and changes nothing else (2.6, 4.7, 4.10, 4.11, 6.7). The order of the notices is log entry 6; the events and
the one sump notice of a change are log entries 13, 14 and 33. -/
def Obligations.AlarmAndPresets : Prop :=
  (∀ (h : CellHeader) (i : Fin 4) (s : State), Accepted h s → ∃ (t : State) (x : Tracker),
    exec (.clearAlarm h [word i.val]) s = .next (t.answered h []) ∧
    Untouched (s.putTracker i x) t ∧ x.effective = x.effectiveBand (s.inputActive x.hold.floatInput) ∧
    { x with effective := s.trackers[i].effective } =
      { s.trackers[i] with
        alarm := s.trackers[i].alarm && decide (s.trackers[i].hold.alarmThreshold < s.trackers[i].loss) } ∧
    During h (Followed NoNotice) s t) ∧
  (∀ (h : CellHeader) (i : Fin 4) (high low : Word) (s : State), Accepted h s → h.maintenance = true →
    ∃ (t : State) (x : Tracker) (n : Nat), n = min (high.toNat * 65536 + low.toNat) 15 ∧
      exec (.presetLossCounter h [word i.val, high, low]) s = .next (t.answered h [0, word n]) ∧
      Untouched (s.putTracker i x) t ∧ x.effective = x.effectiveBand (s.inputActive x.hold.floatInput) ∧
      { x with effective := s.trackers[i].effective } =
        { s.trackers[i] with
          loss := n, alarm := s.trackers[i].alarm || decide (s.trackers[i].hold.alarmThreshold < n) } ∧
      During h (Followed NoNotice) s t) ∧
  ∀ (h : CellHeader) (p : Fin 4) (high low : Word) (s : State), Accepted h s → h.maintenance = true →
    exec (.presetRunSeconds h [word p.val, high, low]) s =
      .next (State.answered (s.putPump p { s.pumps[p] with runSeconds := high ++ low }) h [high, low])

/-- FORCE_LEVEL and UNFORCE: the tracker stands in FORCED at the level, clamped to 16383, with A = 16 times it and no active
source, its band from scratch out of FREERUN and stepped otherwise; a FORCED tracker returns to FREERUN with its band unknown.
The effective band is made anew, the TRK and BAND events of what changed are raised, and the notices it calls for are delivered
(2.6, 4.7, 4.9, 4.10). The order of the notices is log entry 6; the events and the one sump notice of a change are log entries
13, 14 and 33. -/
def Obligations.ForceAndUnforce : Prop :=
  (∀ (h : CellHeader) (i : Fin 4) (level : Word) (s : State), Accepted h s → h.maintenance = true →
    ∃ (t : State) (x : Tracker) (n : Nat), n = min level.toNat 16383 ∧
      exec (.forceLevel h [word i.val, level]) s = .next (t.answered h [word n]) ∧
      Untouched (s.putTracker i x) t ∧ x.state = .forced ∧ x.estimate = n ∧ x.accumulator = 16 * n ∧
      x.active = .none ∧ x.offset = 0 ∧ x.unlockRun = 0 ∧ x.lockFrom = none ∧ x.sampleFrom = none ∧
      x.config = s.trackers[i].config ∧ x.hold = s.trackers[i].hold ∧ x.thresholds = s.trackers[i].thresholds ∧
      x.loss = s.trackers[i].loss ∧ x.ring = s.trackers[i].ring ∧
      x.effective = x.effectiveBand (s.inputActive x.hold.floatInput) ∧
      x.band =
        (if s.trackers[i].band = none then
          some (x.thresholds.filter fun y => decide (y.level ≤ n)).length
        else if n = s.trackers[i].estimate then s.trackers[i].band
        else stepBand x.thresholds n s.trackers[i].band) ∧
      During h (Followed NoNotice) s t) ∧
  ∀ (h : CellHeader) (i : Fin 4) (s : State), Accepted h s → h.maintenance = true → s.trackers[i].state = .forced →
    ∃ (t : State) (x : Tracker),
      exec (.unforce h [word i.val]) s = .next (t.answered h []) ∧
      Untouched (s.putTracker i x) t ∧ x.state = .freerun ∧ x.band = none ∧ x.estimate = 0 ∧ x.accumulator = 0 ∧
      x.config = s.trackers[i].config ∧ x.hold = s.trackers[i].hold ∧ x.thresholds = s.trackers[i].thresholds ∧
      x.loss = s.trackers[i].loss ∧ x.ring = s.trackers[i].ring ∧
      x.effective = x.effectiveBand (s.inputActive x.hold.floatInput) ∧ During h (Followed NoNotice) s t

/-! ## Inputs -/

/-- CONVERSION_COMPLETE, due 1 ms after the start: the record of the converted input takes the raw code, the corrected code
floor((r × G + 2048) / 4096), and the value, quality and cause of its role; no other record changes. The result is handed on:
every tracker that names a LEVEL input takes the sample, and the events and notices that follow are raised and delivered; every
lamp channel that names a CURRENT input is checked, judged once its output has stood for 2000 ms, with its check run and its
fault; a fault entering the warning set of a gate in WARNING sets its lead in force to the degraded lead, and a longer one that
has already run is judged at once. The next conversion is the waiting request, the scan entry at the position, or none. A
one-shot conversion answers the CONVERT that asked for it with its four words and empties the slot (3.1 to 3.4, 4.3 to 4.5,
4.7, 4.10, 7.3, 7.4, 8.5). The order of the notices is log entry 6; the events and the one sump notice of a change are log
entries 13, 14 and 33. -/
def Obligations.ConversionCompletes : Prop :=
  (∀ (raw : BitVec 12) (f : Conversion) (s : State), s.converter.inFlight = some f → f.start + 1 ≤ s.now →
    ∃ (t : State) (a : Analog) (corrected value limit : Nat),
      exec (.conversionComplete raw) s = .next t ∧
      t.analog = s.analog.set f.input a ∧ t.time = s.time ∧ t.loop = s.loop ∧ t.gain = s.gain ∧
      a.config = s.analog[f.input].config ∧ a.raw = raw.toNat ∧
      corrected = (raw.toNat * s.gain + 2048) / 4096 ∧ a.corrected = corrected ∧ a.time = some s.now ∧
      limit = (if a.config.role = .level then 16383 else 4095) ∧
      value =
        (if corrected < a.config.zero then 0
        else min limit (((corrected - a.config.zero) * a.config.scale + 128) / 256)) ∧
      (a.value, a.quality, a.cause) =
        (match a.config.role with
        | .none => (0, .invalid, .noRole)
        | .current => (value, .good, .none)
        | .level =>
          if raw = 4095 then (0, .invalid, .overRange)
          else if corrected < a.config.floor then (0, .invalid, .wireBreak)
          else (value, .good, .none)) ∧
      (if a.config.role = .level then
        Fed (.analog f.input) a.value a.quality { s with analog := s.analog.set f.input a } t ∧
          ∃ u : State, Followed NoNotice { s with analog := s.analog.set f.input a } u ∧
            t = { u with converter := t.converter, replies := t.replies }
      else t.trackers = s.trackers ∧ t.pumps = s.pumps ∧ t.group = s.group ∧ t.plan = s.plan ∧ t.demands = s.demands) ∧
      (a.config.role ≠ .level → ∀ g : Fin 2,
        let x := s.gates[g]
        let entered : Prop :=
          ∃ c : Fin 8, x.config.warning.getLsbD c = true ∧ s.lamps[c].fault = false ∧ t.lamps[c].fault = true
        let runs : Prop := ∃ m, x.leadFrom = some m ∧ m + x.config.degraded * 1000 ≤ s.now
        (x.state ≠ .warning ∨ ¬entered → t.gates[g] = x) ∧
        (x.state = .warning → entered →
          (x.leadInForce.getD 0 < x.config.degraded → runs → s.obstructed g = false →
            (s.atClosed g = false → t.gates[g] = { x.resting .closing .leadEnd with travelFrom := some s.now }) ∧
            (s.atClosed g = true → x.demand ≠ .open → t.gates[g] = { x.resting .closed .limit with retry := 0 })) ∧
          (x.config.degraded ≤ x.leadInForce.getD 0 ∨ ¬runs ∨ s.obstructed g = true →
            t.gates[g] = { x with leadInForce := some x.config.degraded }))) ∧
      (∀ c : Fin 8,
        let l := s.lamps[c]
        let k := t.lamps[c]
        let expected := l.config.fullCurrent * l.output / 255
        let verdict : Verdict :=
          if a.value ≤ expected + l.config.tolerance ∧ expected ≤ a.value + l.config.tolerance then .pass else .fail
        k.config = l.config ∧
        (¬(a.config.role = .current ∧ l.config.current = some f.input) →
          k.measured = l.measured ∧ k.expected = l.expected ∧ k.verdict = l.verdict ∧ k.count = l.count ∧
            k.fault = l.fault) ∧
        (a.config.role = .current → l.config.current = some f.input →
          (∀ d : Fin 8, d < c → s.lamps[d].config.current ≠ some f.input) →
          k.measured = some a.value ∧
          (s.now < l.lastChange + 2000 →
            k.expected = l.expected ∧ k.verdict = l.verdict ∧ k.count = l.count ∧ k.fault = l.fault) ∧
          (l.lastChange + 2000 ≤ s.now →
            k.expected = some expected ∧ k.verdict = verdict ∧
            k.count = (if l.verdict = verdict then min (l.count + 1) 3 else 1) ∧
            k.fault = (if k.count = 3 then decide (verdict = .fail) else l.fault) ∧
            (k.fault ≠ l.fault → s.enabled lampSource = true →
              t.events.records[lampSource].pending = true)))) ∧
      t.converter.restart = false ∧
      (∀ (i : Fin 16) (reply : ReplyTo), s.converter.slot = .waiting i reply →
        t.converter.inFlight = some { input := i, kind := .oneShot, start := s.now } ∧
          t.converter.slot = .inFlight i reply) ∧
      ((∀ (i : Fin 16) (reply : ReplyTo), s.converter.slot ≠ .waiting i reply) →
        t.converter.inFlight =
          (s.converter.scanList[if s.converter.restart then 0 else s.converter.position]?).map fun i =>
            { input := i, kind := .scan, start := s.now })) ∧
  ∀ (raw : BitVec 12) (f : Conversion) (i : Fin 16) (reply : ReplyTo) (s : State),
    s.converter.inFlight = some f → f.start + 1 ≤ s.now → f.kind = .oneShot → s.converter.slot = .inFlight i reply →
    ∃ t : State, exec (.conversionComplete raw) s = .next t ∧ t.converter.slot = .empty ∧
      t.replies =
        { reserved := s.replies.reserved.erase reply
          completed :=
            s.replies.completed ++
              [replyCell reply .done
                [word raw.toNat, word t.analog[f.input].corrected, word t.analog[f.input].value,
                  if t.analog[f.input].quality = .good then 0 else 1]] }

/-- DIGITAL_INPUT_SAMPLE: the tick advances the time base by 1 ms and samples every input: its raw state is the level
through the polarity; a raw state equal to the filtered state ends the run, another lengthens it, and a run that exceeds
the debounce time makes the change due. The filtered states and everything else stay. That the tick is this row, and the
change a row of its own, are log entries 1 and 11. -/
def Obligations.InputsSampled : Prop :=
  ∀ (levels : Word) (s : State), ∃ t : State, exec (.digitalInputSample levels) s = .next t ∧
    t.time =
      { s.time with
        now := s.time.now + 1, msToSecond := s.time.msToSecond + 1, msToRamp := s.time.msToRamp + 1 } ∧
    { t with time := s.time, digital := s.digital } = s ∧
    ∀ i : Fin 16,
      let d := s.digital[i]
      let raw := levels.getLsbD i != d.config.activeLow
      t.digital[i].config = d.config ∧ t.digital[i].level = levels.getLsbD i ∧ t.digital[i].raw = raw ∧
      t.digital[i].filtered = d.filtered ∧ t.digital[i].changed = d.changed ∧
      (raw = d.filtered → t.digital[i].run = 0 ∧ t.digital[i].changeDue = false) ∧
      (raw ≠ d.filtered → t.digital[i].run = min (d.run + 1) 256 ∧
        (t.digital[i].changeDue = true ↔ d.config.debounce < d.run + 1))

/-- FILTERED_STATE_CHANGE, when it is due: the filtered state becomes the raw state and the run 0; no other input's filtered
state changes. Every owner that names the input is told once, with what follows a change of an effective band. The input joins
the changed set, and is reported, exactly when its edges include the direction and the INPUT source is enabled. A tracker whose
float input it is makes its effective band anew. A pump whose fault input becomes active is LOCKED; feedback confirms a
STARTING pump and its loss locks a running one. A gate that names the input answers it as its state says, with both limits
active in FAULT. The supply mode follows its input: a change of mode takes the deficit procedure and raises SUPPLY (3.6, 4.7,
4.10, 6.2, 6.6, 7.4, 9.1, 9.4, 9.5). The order of the notices is log entry 6; the events and the one sump notice of a change
are log entries 13, 14 and 33. That the change is a row of its own, made when it is marked as due, is log entry 11; that a
retry count stops at 8 is log entry 15; the group decision after a pump is stopped is log entry 19. -/
def Obligations.FilteredStateChanges : Prop :=
  (∀ (i : Fin 16) (s : State), s.digital[i].changeDue = true →
    let raw := s.digital[i].raw
    let alone : Prop := ∀ j : Fin 4, s.trackers[j].hold.floatInput ≠ some i
    ∃ (t : State) (d : Digital), exec (.filteredStateChange i) s = .next t ∧
      t.digital = s.digital.set i d ∧ t.time = s.time ∧ t.loop = s.loop ∧ t.replies = s.replies ∧
      t.analog = s.analog ∧ t.converter = s.converter ∧
      d.filtered = raw ∧ d.raw = raw ∧ d.level = s.digital[i].level ∧ d.run = 0 ∧ d.changeDue = false ∧
      d.config = s.digital[i].config ∧
      (let joins : Bool :=
        s.report.enables.getLsbD 20 &&
          match s.digital[i].config.edges, raw with
          | .both, _ => true | .activate, r => r | .deactivate, r => !r | .none, _ => false
        d.changed = (s.digital[i].changed || joins) ∧
        (joins = true →
          t.events.records[inputSource].pending = true ∧
            t.events.records[inputSource].detail = [t.changedWord, t.filteredWord]) ∧
        (joins = false → t.events.records[inputSource] = s.events.records[inputSource])) ∧
      (∀ j : Fin 4,
        t.trackers[j] =
          if s.trackers[j].hold.floatInput = some i then
            { s.trackers[j] with effective := s.trackers[j].effectiveBand raw }
          else s.trackers[j]) ∧
      (∀ p : Fin 4,
        (s.pumps[p].config.fault = some i → s.pumps[p].config.feedback ≠ i → raw = true →
          s.pumps[p].state ∈ [PumpState.idle, .starting, .running, .runOn] →
          t.pumps[p].state = .locked ∧ t.pumps[p].cause = some .tripped) ∧
        (s.pumps[p].config.fault = some i → s.pumps[p].config.feedback ≠ i → s.pumps[p].state = .locked →
          t.pumps[p] = s.pumps[p]) ∧
        (s.pumps[p].config.feedback = i → alone → s.allocator.budget.supply ≠ some i →
          (raw = false → s.pumps[p].state = .running ∨ s.pumps[p].state = .runOn →
            t.pumps[p].state = .locked ∧ t.pumps[p].cause = some .runLost ∧ t.pumps[p].runOnFrom = none) ∧
          (raw = true → s.pumps[p].state = .starting →
            t.pumps[p].runStart = some s.time.seconds ∧ t.pumps[p].confirmFrom = none ∧
            (0 < s.pumps[p].config.minimumRun →
              t.pumps[p].state = .running ∧ t.pumps[p].cause = some .feedback) ∧
            t.pumps[p].state ∈ [PumpState.running, .runOn, .idle]))) ∧
      (alone → ∀ g : Fin 2,
        let x := s.gates[g]
        let w : State := { s with digital := s.digital.set i d }
        let becomes (state : GateState) (detail : GateDetail) : Prop :=
          t.gates[g].state = state ∧ t.gates[g].detail = some detail
        let limit : Prop := x.config.openLimit = i ∨ x.config.closedLimit = i
        let blocks : Prop := x.config.obstruction = some i
        t.gates[g].config = x.config ∧ t.gates[g].demand = x.demand ∧
        (¬limit → ¬blocks → t.gates[g] = x) ∧
        (x.state = .absent ∨ x.state = .fault → t.gates[g] = x) ∧
        (x.state ≠ .absent → limit → w.atOpen g = true → w.atClosed g = true →
          t.gates[g].state = .fault ∧ (x.state ≠ .fault → becomes .fault .limits) ∧
            t.gates[g].openDrive = false ∧ t.gates[g].closeDrive = false) ∧
        ((limit → w.atOpen g = false ∨ w.atClosed g = false) →
          (x.state = .stopped → t.gates[g] = x) ∧
          (x.state = .opened →
            if x.config.openLimit = i ∧ raw = false then becomes .stopped .drift else t.gates[g] = x) ∧
          (x.state = .closed →
            if x.config.closedLimit = i ∧ raw = false then becomes .stopped .drift else t.gates[g] = x) ∧
          (x.state = .warning →
            if blocks ∧ raw = false ∧ w.leadElapsed g = true then
              (w.atClosed g = false → becomes .closing .leadEnd ∧ t.gates[g].travelFrom = some s.now) ∧
                (w.atClosed g = true → x.demand ≠ .open → becomes .closed .limit ∧ t.gates[g].retry = 0)
            else t.gates[g] = x) ∧
          (x.state = .closing →
            (x.config.closedLimit = i → raw = true → x.demand ≠ .open →
              becomes .closed .limit ∧ t.gates[g].retry = 0 ∧ t.gates[g].travelFrom = none) ∧
            (x.config.closedLimit ≠ i → blocks → raw = true → 0 < x.config.reverse → w.atOpen g = false →
              becomes .reversing .obstruction ∧ t.gates[g].reverseFrom = some s.now ∧ t.gates[g].travelFrom = none) ∧
            (raw = false → t.gates[g] = x)) ∧
          (x.state = .opening →
            (x.config.openLimit = i → raw = true → x.demand ≠ .close →
              becomes .opened .limit ∧ t.gates[g].retry = 0 ∧ t.gates[g].travelFrom = none) ∧
            (x.config.openLimit = i → raw = true → x.demand = .close → 0 < s.leadAtEntry x.config →
              becomes .warning .demand ∧ t.gates[g].retry = 0 ∧ t.gates[g].leadFrom = some s.now) ∧
            (x.config.openLimit ≠ i ∨ raw = false → t.gates[g] = x)) ∧
          (x.state = .reversing →
            (x.config.openLimit = i → raw = true →
              t.gates[g].retry = min (x.retry + 1) 8 ∧
              if min (x.retry + 1) 8 ≤ x.config.retryLimit ∧ x.demand = .close then
                0 < s.leadAtEntry x.config → becomes .warning .retry ∧ t.gates[g].leadFrom = some s.now
              else becomes .stopped .obstructed) ∧
            (x.config.openLimit ≠ i ∨ raw = false → t.gates[g] = x)))) ∧
      (t.allocator.mode =
        if s.allocator.budget.supply = some i then (if raw then .standby else .mains) else s.allocator.mode) ∧
      ∃ u : State,
        Followed
          (fun n =>
            (n = .pumpInput i ∧ ∃ p : Fin 4, s.pumps[p].config.feedback = i ∨ s.pumps[p].config.fault = some i) ∨
              (∃ g : Fin 2, n = .gateInput g i ∧
                (s.gates[g].config.openLimit = i ∨ s.gates[g].config.closedLimit = i ∨
                  s.gates[g].config.obstruction = some i)) ∨
              n = .supply ∧ s.allocator.budget.supply = some i)
          { s with digital := s.digital.set i { s.digital[i] with filtered := raw, run := 0, changeDue := false } } u ∧
        { t with digital := u.digital, events := u.events } = u) ∧
  ∀ s : State,
    let mode : SupplyMode := if s.inputActive s.allocator.budget.supply then .standby else .mains
    (mode = s.allocator.mode → deliver s .supply = s) ∧ (mode ≠ s.allocator.mode → SupplyTaken s (deliver s .supply))

/-! ## Trackers -/

/-- The filter stage from an accumulator in its range: the accumulator moves toward 16 times the adjusted sample and never
past it, by at most the step limit, and always when it is above; the estimate is floor((A + 8) / 16), at most 16383
(4.3). -/
def Obligations.FilterMovesTowardTheSample : Prop :=
  ∀ (x : Tracker) (sample shift : Nat), x.accumulator ≤ 262128 →
    let goal : Int := 16 * max 0 (min 16383 ((sample : Int) + x.offset))
    let a : Int := x.accumulator
    let y := x.filterStep (x.error sample) shift
    (a ≤ goal → a ≤ y.accumulator ∧ (y.accumulator : Int) ≤ goal) ∧
    (goal ≤ a → goal ≤ y.accumulator ∧ (y.accumulator : Int) ≤ a) ∧
    (goal < a → 1 ≤ x.config.stepLimit → (y.accumulator : Int) < a) ∧
    ((y.accumulator : Int) - a ≤ x.config.stepLimit ∧ a - y.accumulator ≤ x.config.stepLimit) ∧
    y.estimate = (y.accumulator + 8) / 16 ∧ y.estimate ≤ 16383 ∧ y.state = x.state ∧ y.active = x.active ∧
    y.loss = x.loss

/-- The level band stepped to an estimate: a band above the old one has its own threshold reached and not the next; a band
below has the next threshold missed by more than its hysteresis and its own not so; a band kept has neither the next
reached nor its own missed; and U stays U. The effective band is the level band, one higher up to the last while the surge flag
is set, and at least the float band while a float input is active, which also lifts it out of U (4.7). -/
def Obligations.BandSteps : Prop :=
  (∀ (ths : List Threshold) (e : Nat), stepBand ths e none = none ∧
    ∀ b : Nat, b ≤ ths.length → ∃ c : Nat, stepBand ths e (some b) = some c ∧ c ≤ ths.length ∧
      (b ≤ c → ∀ x, ths[c]? = some x → e < x.level) ∧
      (b < c → ∀ k x, b ≤ k → k < c → ths[k]? = some x → x.level ≤ e) ∧
      (c < b → ∀ k x, c ≤ k → k < b → ths[k]? = some x → e + x.hysteresis < x.level) ∧
      (c ≤ b → ∀ k x, c = k + 1 → ths[k]? = some x → x.level ≤ e + x.hysteresis)) ∧
  ∀ (x : Tracker) (floatActive : Bool),
    (x.band = none →
      x.effectiveBand floatActive = if floatActive then some x.hold.floatBand else none) ∧
    ∀ b : Nat, x.band = some b →
      let raised := if x.surge then min (b + 1) x.thresholds.length else b
      x.effectiveBand floatActive = some (if floatActive then max raised x.hold.floatBand else raised)

/-- LOCK_SETTLE, LOCK_TIME_END and PRIMARY_WATCH_EXPIRY, when due: the phase becomes SETTLE; the tracker enters TRACKING with
its lock timer stopped and its unlock run 0; the primary watch becomes none. The rest of the tracker is kept, the effective
band is made anew from the same parts, and what changed is followed by its TRK and BAND events and by its notices, which move
all else that can differ (4.4, 4.7, 4.10). The order of the notices is log entry 6; the events and the one sump notice of a
change are log entries 13, 14 and 33. That the phase, which is not shown outside ACQUIRE, goes back to FAST is log entry 23. -/
def Obligations.TrackerTimers : Prop :=
  ∀ (i : Fin 4) (m : Nat) (s : State),
    (s.trackers[i].state = .acquire → s.trackers[i].phase = .fast → s.trackers[i].lockFrom = some m →
      m + s.trackers[i].config.lockTime / 2 * 1000 ≤ s.now →
      ∃ (t : State) (x : Tracker), exec (.lockSettle i) s = .next t ∧ Untouched (s.putTracker i x) t ∧
        x.effective = x.effectiveBand (s.inputActive x.hold.floatInput) ∧
        { x with effective := s.trackers[i].effective } = { s.trackers[i] with phase := .settle } ∧
        Followed NoNotice s t) ∧
    (s.trackers[i].state = .acquire → s.trackers[i].lockFrom = some m →
      m + s.trackers[i].config.lockTime * 1000 ≤ s.now →
      ∃ (t : State) (x : Tracker), exec (.lockTimeEnd i) s = .next t ∧ Untouched (s.putTracker i x) t ∧
        x.effective = x.effectiveBand (s.inputActive x.hold.floatInput) ∧
        { x with effective := s.trackers[i].effective } =
          { s.trackers[i] with state := .tracking, phase := .fast, lockFrom := none, unlockRun := 0 } ∧
        Followed NoNotice s t) ∧
    (∀ y : SourceSample, s.trackers[i].watch = some m → s.lastSample s.trackers[i].config.primary = some y →
      y.arrival + s.trackers[i].config.sampleTimeout < s.now →
      ∃ (t : State) (x : Tracker), exec (.primaryWatchExpiry i) s = .next t ∧ Untouched (s.putTracker i x) t ∧
        x.effective = x.effectiveBand (s.inputActive x.hold.floatInput) ∧
        { x with effective := s.trackers[i].effective } = { s.trackers[i] with watch := none } ∧
        Followed NoNotice s t)

/-- SAMPLE_TIMER_EXPIRY: the active source is lost. With the other source valid the tracker goes over to it: in ACQUIRE with
the estimate at its sample, in TRACKING hitless within the offset limit and otherwise hard, counting a loss. With it not valid,
TRACKING goes to HOLDOVER, counting a loss, and ACQUIRE to FREERUN. The level band is stepped to the estimate and the effective
band made anew; the TRK and BAND events of what changed are raised, and the notices it calls for delivered (4.1, 4.4, 4.5, 4.7,
4.10, 4.11). The order of the notices is log entry 6; the events and the one sump notice of a change are log entries 13, 14 and
33. -/
def Obligations.SampleTimerLosesTheSource : Prop :=
  ∀ (i : Fin 4) (m : Nat) (side other : Active) (source : Option Source) (s : State),
    (side = .primary ∧ other = .secondary ∧ source = s.trackers[i].config.secondary ∨
      side = .secondary ∧ other = .primary ∧ source = s.trackers[i].config.primary) →
    s.trackers[i].active = side → s.trackers[i].sampleFrom = some m →
    m + s.trackers[i].config.sampleTimeout ≤ s.now →
    (s.trackers[i].state = .acquire ∨ s.trackers[i].state = .tracking) →
    ∃ (t : State) (x : Tracker), exec (.sampleTimerExpiry i) s = .next t ∧ Untouched (s.putTracker i x) t ∧
      Followed NoNotice s t ∧
      x.config = s.trackers[i].config ∧ x.hold = s.trackers[i].hold ∧
      x.effective = x.effectiveBand (s.inputActive x.hold.floatInput) ∧
      (x.state ≠ .freerun →
        x.band =
          if x.estimate = s.trackers[i].estimate then s.trackers[i].band
          else stepBand s.trackers[i].thresholds x.estimate s.trackers[i].band) ∧
      (validSample s.now x.config.sampleTimeout (s.lastSample source) = false →
        (s.trackers[i].state = .tracking →
          x.state = .holdover ∧ x.active = .none ∧ x.holdLevel = s.trackers[i].holdValue ∧
            x.estimate = x.holdLevel ∧ x.accumulator = 16 * x.holdLevel ∧ x.holdSeconds = 0 ∧
            x.heldRate = s.trackers[i].lastRate.getD 0 ∧ x.loss = min (s.trackers[i].loss + 1) 15) ∧
        (s.trackers[i].state = .acquire →
          x.state = .freerun ∧ x.band = none ∧ x.estimate = 0 ∧ x.loss = s.trackers[i].loss)) ∧
      ∀ y : SourceSample, s.lastSample source = some y →
        validSample s.now x.config.sampleTimeout (some y) = true →
        x.active = other ∧ x.sampleFrom = some y.arrival ∧
        (s.trackers[i].state = .acquire →
          x.state = .acquire ∧ x.offset = 0 ∧ x.accumulator = 16 * y.value ∧ x.estimate = y.value ∧
            x.lockFrom = some s.now ∧ x.loss = s.trackers[i].loss) ∧
        (s.trackers[i].state = .tracking →
          ((s.trackers[i].estimate : Int) - y.value).natAbs ≤ x.hold.offsetLimit →
          x.state = .tracking ∧ x.offset = (s.trackers[i].estimate : Int) - y.value ∧ x.unlockRun = 0 ∧
            x.estimate = s.trackers[i].estimate ∧ x.accumulator = s.trackers[i].accumulator ∧
            x.loss = s.trackers[i].loss) ∧
        (s.trackers[i].state = .tracking →
          x.hold.offsetLimit < ((s.trackers[i].estimate : Int) - y.value).natAbs →
          x.state = .acquire ∧ x.offset = 0 ∧ x.unlockRun = 0 ∧ x.accumulator = 16 * y.value ∧
            x.estimate = y.value ∧ x.lockFrom = some s.now ∧ x.loss = min (s.trackers[i].loss + 1) 15)

/-- HOLDOVER_TIMEOUT and REVERT at a second tick that is due: the tracker whose k the tick brings to its timeout goes to
FREERUN; the tracker whose revert test holds, its primary valid at that moment, switches to its primary, hitless or hard, and
one whose primary is not valid does not. The TRK and BAND events of what changed are raised, and the notices it calls for
delivered (4.1, 4.4, 4.5, 4.7, 4.10, 4.11). The order of the notices is log entry 6; the events and the one sump notice of a
change are log entries 13, 14 and 33. That they act when the tick is due is log entry 10. -/
def Obligations.HoldoverTimeoutAndRevert : Prop :=
  ∀ (i : Fin 4) (s : State), 1000 ≤ s.time.msToSecond →
    (s.trackers[i].state = .holdover → s.trackers[i].hold.timeout ≠ 0 →
      s.trackers[i].hold.timeout ≤ s.trackers[i].holdSeconds + 1 →
      ∃ (t : State) (x : Tracker), exec (.holdoverTimeout i) s = .next t ∧ Untouched (s.putTracker i x) t ∧
        Followed NoNotice s t ∧
        x.state = .freerun ∧ x.band = none ∧ x.estimate = 0 ∧ x.accumulator = 0 ∧ x.holdLevel = 0 ∧
        x.surge = false ∧ x.loss = s.trackers[i].loss ∧ x.ring = s.trackers[i].ring ∧
        x.effective = x.effectiveBand (s.inputActive x.hold.floatInput) ∧
        x.config = s.trackers[i].config ∧ x.hold = s.trackers[i].hold) ∧
    (∀ (m : Nat) (y : SourceSample), s.trackers[i].state = .tracking → s.trackers[i].active = .secondary →
      s.trackers[i].hold.revertTime ≠ 0 → s.trackers[i].watch = some m →
      m + s.trackers[i].hold.revertTime * 1000 ≤ s.now → s.lastSample s.trackers[i].config.primary = some y →
      validSample s.now s.trackers[i].config.sampleTimeout (some y) = true →
      ∃ (t : State) (x : Tracker), exec (.revert i) s = .next t ∧ Untouched (s.putTracker i x) t ∧
        Followed NoNotice s t ∧
        x.active = .primary ∧ x.sampleFrom = some y.arrival ∧ x.unlockRun = 0 ∧
        x.effective = x.effectiveBand (s.inputActive x.hold.floatInput) ∧
        x.config = s.trackers[i].config ∧ x.hold = s.trackers[i].hold ∧
        if ((s.trackers[i].estimate : Int) - y.value).natAbs ≤ s.trackers[i].hold.offsetLimit then
          x.state = .tracking ∧ x.offset = (s.trackers[i].estimate : Int) - y.value ∧
            x.estimate = s.trackers[i].estimate ∧ x.loss = s.trackers[i].loss
        else
          x.state = .acquire ∧ x.offset = 0 ∧ x.estimate = y.value ∧ x.accumulator = 16 * y.value ∧
            x.loss = min (s.trackers[i].loss + 1) 15) ∧
    (validSample s.now s.trackers[i].config.sampleTimeout (s.lastSample s.trackers[i].config.primary) = false →
      exec (.revert i) s = .next s)

/-- SECOND_TICK, when due: the seconds count goes up by 1. Every tracker counts a second of HOLDOVER and extrapolates, or ends
it; reverts to a valid primary when its revert test holds; bleeds its offset toward 0 in ACQUIRE and TRACKING; pushes its
estimate onto its history ring; computes its rate of rise, except in HOLDOVER; sets or clears its surge flag; and makes its
effective band anew. Every hold counts down. Each pump that is in RUNNING or RUN_ON before and after gains one run second,
saturating; one that was in neither keeps its run seconds. The TRK and BAND events of what changed at the trackers are raised,
and then, in some order, their notices, a countdown that removes a part, with its owners' answers, and the group's work are
taken: its run seconds, its start logs without the entries older than 3600 s, and the group decision. The rest of the block is
kept (4.4 to 4.8, 4.10, 5.5, 6.4, 6.7). The order is log entry 6; the events and the one sump notice of a change are log
entries 13, 14 and 33; the phase of the second is log entry 1; that the seconds count wraps is log entry 18; that k has no
bound is log entry 32. -/
def Obligations.SecondTickAdvances : Prop :=
  (∀ s : State, 1000 ≤ s.time.msToSecond → ∃ t : State, exec .secondTick s = .next t ∧
    (let expires : Prop := s.demands.SomeHold (fun hold => hold = 1);
      (expires →
        Followed (fun n => n = .countdown ∨ n = .pumpTick) { s with time := t.time } t) ∧
      (¬expires →
        Followed (fun n => n = .pumpTick) { s with time := t.time, demands := s.demands.shortened } t)) ∧
    t.time = { s.time with seconds := s.time.seconds + 1, msToSecond := s.time.msToSecond - 1000 } ∧
    Untouched { s with time := t.time, trackers := t.trackers } t ∧
    (∀ i : Fin 4,
      let o := s.trackers[i]
      let x := t.trackers[i]
      let bled (offset : Int) : Int :=
        if 0 ≤ offset then max 0 (offset - o.hold.bleed) else min 0 (offset + o.hold.bleed)
      let reverts : Prop :=
        o.state = .tracking ∧ o.active = .secondary ∧ o.hold.revertTime ≠ 0 ∧
          (∃ m, o.watch = some m ∧ m + o.hold.revertTime * 1000 ≤ s.now) ∧
          validSample s.now o.config.sampleTimeout (s.lastSample o.config.primary) = true
      x.config = o.config ∧ x.hold = o.hold ∧ x.thresholds = o.thresholds ∧
      x.ring = ({ level := x.estimate, valid := decide (x.state ≠ .freerun) } :: o.ring).take 16 ∧
      (o.state = .holdover →
        if o.hold.timeout ≠ 0 ∧ o.hold.timeout ≤ o.holdSeconds + 1 then
          x.state = .freerun ∧ x.estimate = 0 ∧ x.band = none
        else
          x.state = .holdover ∧ x.holdSeconds = o.holdSeconds + 1 ∧
            x.estimate = min 16383 (o.holdLevel + (max 0 o.heldRate).toNat * (o.holdSeconds + 1) / 60)) ∧
      (o.state ≠ .holdover → ¬reverts →
        x.state = o.state ∧ x.active = o.active ∧ x.estimate = o.estimate ∧ x.band = o.band ∧ x.loss = o.loss ∧
          x.offset = if o.state = .acquire ∨ o.state = .tracking then bled o.offset else o.offset) ∧
      (reverts → ∀ y : SourceSample, s.lastSample o.config.primary = some y →
        x.active = .primary ∧ x.unlockRun = 0 ∧ x.sampleFrom = some y.arrival ∧
        if ((o.estimate : Int) - y.value).natAbs ≤ o.hold.offsetLimit then
          x.state = .tracking ∧ x.offset = bled ((o.estimate : Int) - y.value) ∧ x.estimate = o.estimate ∧ x.loss = o.loss
        else
          x.state = .acquire ∧ x.offset = 0 ∧ x.estimate = y.value ∧ x.loss = min (o.loss + 1) 15) ∧
      (x.state ≠ .freerun → x.estimate ≠ o.estimate → x.band = stepBand o.thresholds x.estimate o.band) ∧
      (if x.state = .holdover then x.rate = o.rate ∧ x.rateValid = o.rateValid ∧ x.lastRate = o.lastRate
        else
          let newest := x.ring.getD 0 { level := 0, valid := false }
          let oldest := x.ring.getD o.hold.window { level := 0, valid := false }
          if newest.valid = true ∧ oldest.valid = true then
            x.rate = max (-4095) (min 4095 ((((newest.level : Int) - oldest.level) * 60).tdiv o.hold.window)) ∧
              x.rateValid = true ∧ x.lastRate = some x.rate
          else x.rate = 0 ∧ x.rateValid = false) ∧
      (let used : Int := if x.rateValid then x.rate else 0;
        (o.hold.surgeRate = 0 → x.surge = false) ∧
        (o.hold.surgeRate ≠ 0 →
          ((o.hold.surgeRate : Int) ≤ used → x.surge = true) ∧
          (used < o.hold.surgeRate → used < (o.hold.surgeRate : Int) - o.hold.surgeHysteresis → x.surge = false) ∧
          (used < o.hold.surgeRate → (o.hold.surgeRate : Int) - o.hold.surgeHysteresis ≤ used →
            x.surge = (o.surge && decide (o.state ≠ .holdover ∨ x.state = .holdover))))) ∧
      x.effective = x.effectiveBand (s.inputActive o.hold.floatInput)) ∧
    (t.demands.pumps.supervisory = counted s.demands.pumps.supervisory ∧
      (∀ g : Fin 2, t.demands.gates[g].supervisory = counted s.demands.gates[g].supervisory) ∧
      ∀ z : Fin 4, t.demands.zones[z].supervisory = counted s.demands.zones[z].supervisory) ∧
    ∀ p : Fin 4,
      (s.pumps[p].state = .running ∨ s.pumps[p].state = .runOn → t.pumps[p].state = .running ∨ t.pumps[p].state = .runOn →
        t.pumps[p].runSeconds.toNat = min (s.pumps[p].runSeconds.toNat + 1) 4294967295) ∧
      (t.pumps[p].runSeconds = s.pumps[p].runSeconds ∨
        t.pumps[p].runSeconds.toNat = s.pumps[p].runSeconds.toNat + 1) ∧
      (s.pumps[p].state ≠ .running → s.pumps[p].state ≠ .runOn → t.pumps[p].runSeconds = s.pumps[p].runSeconds)) ∧
  (∀ s : State,
    OwnersTold s.demands (fun _ => False) False { s with demands := s.demands.shortened } (deliver s .countdown)) ∧
  ∀ s : State,
    let ticked (x : Pump) : Pump :=
      { x with
        startLog := x.startLog.filter fun e => decide ((s.time.seconds - e).toNat ≤ 3600)
        runSeconds :=
          if (x.state = .running ∨ x.state = .runOn) ∧ x.runSeconds.toNat < 4294967295 then x.runSeconds + 1
          else x.runSeconds }
    GroupAnswers { s with pumps := s.pumps.map ticked } (deliver s .pumpTick)

/-- A band change of a tracker, whatever the entries that answer it. The items of the LEAVE entry of the old band and then of
the ENTER entry of the new one, both found under the plan in force, run in list order; the last PLAN item is held to the end
and, if it asks for another plan, puts it in force and runs the ENTER entries of all trackers' present bands under it. The
demands are those that the PUMPS, GATE and SCENE items write, the later write standing; the ACTION record holds the last EVENT
item, and counts them all; the PLAN record tells the plan change, or the last PLAN item that the cascade suppressed. A STOPPED
gate that an item names answers a fresh demand. With no entry to answer it the change does nothing. The owners are told, each
once, and answer: the group decides, each gate and each zone as its state has it. The other two notices of a tracker's change:
its reopen gates answer their standing conditions, a CLOSED gate asked OPEN opening with detail REOPEN where the reopen
condition now holds; the group whose sump it is evaluates dry protection and decides (4.10, 5.2 to 5.5, 6.3, 6.4, 7.3, 7.4,
8.3). The order in which the owners are told is log entry 6. -/
def Obligations.BandChangeFires : Prop :=
  (∀ (i : Fin 4) (old new : Band) (s : State),
    let fired := s.firedItems i old new
    let change : Option (Fin 8 × Fin 64) := (lastPlan fired).filter fun a => decide (a.1 ≠ s.plan)
    let items := fired ++ (change.map fun a => s.cascadeItems a.1).getD []
    let t := bandChange i old new s
    (s.findEntry i old .leave s.plan = none → s.findEntry i new .enter s.plan = none → t = s) ∧
    t.plan = (change.map fun a => a.1).getD s.plan ∧
    t.demands = items.foldl Demands.writtenBy s.demands ∧
    Untouched s t ∧
    ActionTold items s t ∧
    (change = none → t.events.records[planSource] = s.events.records[planSource]) ∧
    (∀ (p : Fin 8) (e : Fin 64), change = some (p, e) → s.enabled planSource = true →
      t.events.records[planSource].pending = true ∧
        t.events.records[planSource].detail =
          match lastPlan (s.cascadeItems p) with
          | none => [1, word s.plan.val, word p.val, word e.val, 0, 0xFFFF, 0xFFFF]
          | some (q, f) => [1, word s.plan.val, word p.val, word e.val, 1, word q.val, word f.val]) ∧
    (∃ events : EventSet,
      OwnersTold s.demands (NamedBy items) (t.plan ≠ s.plan)
        { s with plan := t.plan, demands := t.demands, events := events } t) ∧
    ∀ g : Fin 2,
      let named : Prop := NamedBy items g
      let asked := effectiveGate t.demands.gates[g]
      (¬named → asked = effectiveGate s.demands.gates[g] → t.gates[g] = s.gates[g]) ∧
      (named → t.gates[g].demand = asked) ∧
      (named → s.gates[g].state = .stopped →
        t.gates[g].retry = 0 ∧
        (asked = .close → 0 < s.leadAtEntry s.gates[g].config →
          t.gates[g].state = .warning ∧ t.gates[g].detail = some .demand ∧ t.gates[g].leadFrom = some s.now) ∧
        (asked = .open → s.reopenHolds g = true → s.atOpen g = false →
          t.gates[g].state = .opening ∧ t.gates[g].detail = some .demand ∧ t.gates[g].travelFrom = some s.now) ∧
        (asked = .open → s.reopenHolds g = false → t.gates[g].state = .stopped ∧ t.gates[g].held = true) ∧
        (asked = .none → t.gates[g].state = .stopped ∧ t.gates[g].held = false))) ∧
  (∀ (i : Fin 4) (old new : Band) (s : State), deliver s (.band i old new) = bandChange i old new s) ∧
  (∀ (g : Fin 2) (s : State), ReopenAnswers g s (deliver s (.reopen g))) ∧
  ∀ s : State, SumpAnswers s (deliver s .sump)

/-! ## Timers of the equipment -/

/-- CONFIRM_EXPIRY, RUN_ON_END and START_LOG_EXPIRY, when due: a STARTING pump is LOCKED with cause FAIL_TO_START; a
RUN_ON pump goes to IDLE; after either the group decides from there; a start log loses the entries older than
3600 s at the new second, and nothing else changes (6.2, 6.4). That the log acts when the second is due is log entry 10; that
the age of an entry is the 32-bit difference of the seconds counts is log entry 18. -/
def Obligations.PumpTimers : Prop :=
  ∀ (p : Fin 4) (m : Nat) (s : State),
    (s.pumps[p].state = .starting → s.pumps[p].confirmFrom = some m →
      m + s.pumps[p].config.confirm * 1000 ≤ s.now →
      ∃ t : State, exec (.confirmExpiry p) s = .next t ∧
        t.pumps[p] =
          { s.pumps[p] with state := .locked, cause := some .failToStart, confirmFrom := none, runOnFrom := none } ∧
        GroupAnswers (s.putPump p t.pumps[p]) t) ∧
    (s.pumps[p].state = .runOn → s.pumps[p].runOnFrom = some m → m + s.pumps[p].config.runOn * 1000 ≤ s.now →
      ∃ t : State, exec (.runOnEnd p) s = .next t ∧
        GroupAnswers
          (s.putPump p
            { s.pumps[p] with state := .idle, cause := some .runOnEnd, confirmFrom := none, runOnFrom := none })
          t) ∧
    (1000 ≤ s.time.msToSecond →
      exec (.startLogExpiry p) s =
        .next (s.putPump p
          { s.pumps[p] with
            startLog := s.pumps[p].startLog.filter fun e => decide ((s.time.seconds + 1 - e).toNat ≤ 3600) }))

/-- RELEASE_TIMER_EXPIRY, when due, so at a tick after the last BUDGET write: the shed stage goes down by 1, the timer restarts
while the stage stays above 0, the targets of the GENERAL channels are recomputed under the new cap with every output as it was,
and a SHED event with cause RELEASE is raised. At the moment of a BUDGET write it does nothing (8.3, 9.1, 9.5). -/
def Obligations.ReleaseLowersTheStage : Prop :=
  (∀ (m : Nat) (s : State), 0 < s.allocator.stage → s.allocator.releaseFrom = some m →
    m + s.allocator.budget.release * 1000 ≤ s.now → (∀ w, s.allocator.writtenAt = some w → w < s.now) →
    ∃ t : State, exec .releaseTimerExpiry s = .next t ∧
      t.allocator =
        { s.allocator with
          stage := s.allocator.stage - 1
          releaseFrom := if s.allocator.stage = 1 then none else some s.now } ∧
      (∀ c : Fin 8,
        t.lamps[c] =
          match s.lamps[c].config.role with
          | .warn => s.lamps[c]
          | .general =>
            { s.lamps[c] with
              target :=
                min s.scenes[effectiveScene s.demands.zones[s.lamps[c].config.zone]][c]
                  (stageCap (s.allocator.stage - 1) s.lamps[c].config) }) ∧
      t.events =
        (raise shedSource [word (s.allocator.stage - 1), word s.allocator.stage, 2, word s.committed] s).events ∧
      { t with allocator := s.allocator, lamps := s.lamps, events := s.events } = s) ∧
    ∀ s : State, s.allocator.writtenAt = some s.now → exec .releaseTimerExpiry s = .next s

/-- LEAD_EXPIRY, TRAVEL_TIMEOUT and REVERSE_END, when due. A warned gate closes, stays while an obstruction holds it, and is
CLOSED at once when its closed limit is already active. A gate that travels too long is in FAULT with its drives off. A
reversal ends in a fresh warning while retries remain and CLOSE is asked for, otherwise in STOPPED; a fresh warning whose lead
is 0 goes on to close unless an obstruction holds it (7.3, 7.4). That the retry count stops at 8 is log entry 15, and that a
lead of 0 ends at its entry is log entry 20. -/
def Obligations.GateTimers : Prop :=
  ∀ (g : Fin 2) (m : Nat) (s : State),
    (∀ lead : Nat, s.gates[g].state = .warning → s.gates[g].leadFrom = some m →
      s.gates[g].leadInForce = some lead → m + lead * 1000 ≤ s.now →
      (s.obstructed g = true → exec (.leadExpiry g) s = .next s) ∧
      (s.obstructed g = false → ∃ t : State, exec (.leadExpiry g) s = .next t ∧
        (s.atClosed g = false →
          t.gates[g].state = .closing ∧ t.gates[g].detail = some .leadEnd ∧ t.gates[g].closeDrive = true ∧
            t.gates[g].travelFrom = some s.now ∧ t.gates[g].retry = s.gates[g].retry) ∧
        (s.atClosed g = true → s.gates[g].demand = .close →
          t.gates[g].state = .closed ∧ t.gates[g].detail = some .limit ∧ t.gates[g].retry = 0) ∧
        (∀ k : Fin 2, k ≠ g → t.gates[k] = s.gates[k]) ∧
        t.plan = s.plan ∧ t.demands = s.demands ∧ t.pumps = s.pumps ∧ t.allocator = s.allocator ∧
        Untouched s t)) ∧
    (s.gates[g].state ∈ [GateState.closing, .opening] → s.gates[g].travelFrom = some m →
      m + s.gates[g].config.travel * 1000 ≤ s.now →
      ∃ t : State, exec (.travelTimeout g) s = .next t ∧
        t.gates =
          s.gates.set g
            { s.gates[g] with
              state := .fault, detail := some .travel, leadFrom := none, leadInForce := none, travelFrom := none,
              reverseFrom := none, held := false } ∧
        t.gates[g].openDrive = false ∧ t.gates[g].closeDrive = false ∧
        t.plan = s.plan ∧ t.demands = s.demands ∧ t.pumps = s.pumps ∧ t.allocator = s.allocator ∧ Untouched s t) ∧
    (∀ n : Nat, n = min (s.gates[g].retry + 1) 8 → s.gates[g].state = .reversing →
      s.gates[g].reverseFrom = some m → m + s.gates[g].config.reverse * 1000 ≤ s.now →
      let lead := s.leadAtEntry s.gates[g].config
      ∃ t : State, exec (.reverseEnd g) s = .next t ∧
        (if n ≤ s.gates[g].config.retryLimit ∧ s.gates[g].demand = .close then
          (0 < lead ∨ s.obstructed g = true →
            t.gates[g].state = .warning ∧ t.gates[g].detail = some .retry ∧ t.gates[g].retry = n ∧
              t.gates[g].leadFrom = some s.now ∧ t.gates[g].leadInForce = some lead) ∧
          (lead = 0 → s.obstructed g = false →
            if s.atClosed g then
              t.gates[g].state = .closed ∧ t.gates[g].detail = some .limit ∧ t.gates[g].retry = 0
            else
              t.gates[g].state = .closing ∧ t.gates[g].detail = some .leadEnd ∧ t.gates[g].retry = n ∧
                t.gates[g].travelFrom = some s.now)
        else t.gates[g].state = .stopped ∧ t.gates[g].detail = some .obstructed ∧ t.gates[g].retry = n) ∧
        (∀ k : Fin 2, k ≠ g → t.gates[k] = s.gates[k]) ∧
        t.plan = s.plan ∧ t.demands = s.demands ∧ t.pumps = s.pumps ∧ t.allocator = s.allocator ∧ Untouched s t)

/-- RAMP_TICK, when due: every GENERAL channel above its target steps down by its ramp rate, never past the target. Then, in
channel order, one below its target steps up by its ramp rate, never past the target, exactly when no start waits for load and
its step fits the active budget beside the load that the down-steps and the earlier up-steps have left; otherwise it stays and
is marked LIMITED. One at its target is no longer LIMITED; WARN channels are left. Committed load within the active budget
stays within it, and nothing but the lamps and the ramp's own phase changes (8.4, 9.2, 9.3). The ramp's own phase is log entry
1. -/
def Obligations.RampTickSteps : Prop :=
  ∀ s : State, 100 ≤ s.time.msToRamp → ∃ t : State, exec .rampTick s = .next t ∧
    { t with time := s.time, lamps := s.lamps } = s ∧
    t.time = { s.time with msToRamp := s.time.msToRamp - 100 } ∧
    (s.committed ≤ s.activeBudget → t.committed ≤ t.activeBudget) ∧
    ∀ c : Fin 8,
      let l := s.lamps[c]
      let k := t.lamps[c]
      let up := min l.target (l.output + l.config.rampRate)
      let stands (d : Fin 8) : Nat :=
        if d < c then t.lamps[d].output
        else if s.lamps[d].target < s.lamps[d].output then
          max s.lamps[d].target (s.lamps[d].output - s.lamps[d].config.rampRate)
        else s.lamps[d].output
      let load : Nat := s.pumpPart + s.reservePart +
        ((List.finRange 8).map fun d =>
          if s.lamps[d].config.role = .general then (s.lamps[d].config.fullLoad * stands d + 254) / 255 else 0).sum
      let fits : Prop :=
        load - (l.config.fullLoad * l.output + 254) / 255 + (l.config.fullLoad * up + 254) / 255 ≤ s.activeBudget
      { k with output := l.output, limited := l.limited, lastChange := l.lastChange } = l ∧
      k.lastChange = (if k.output = l.output then l.lastChange else s.now) ∧
      (l.config.role = .warn → k = l) ∧
      (l.config.role = .general → l.target < l.output →
        k.output = max l.target (l.output - l.config.rampRate) ∧ k.limited = false) ∧
      (l.config.role = .general → l.output = l.target → k.output = l.output ∧ k.limited = false) ∧
      (l.config.role = .general → l.output < l.target →
        (s.group.waiting = false → fits → k.output = up ∧ k.limited = false) ∧
        (s.group.waiting = true ∨ ¬fits → k.output = l.output ∧ k.limited = true))

/-! ## Events -/

/-- R164, whole: raising an event on a source that is disabled, enabled and idle, enabled and pending; the latest detail
stands; events on different sources need no order. -/
def Obligations.RaiseEvent : Prop :=
  ∀ (n : Fin 22) (detail later : List Word) (s : State),
    (s.enabled n = false → raise n detail s = s) ∧
    (s.enabled n = true → s.events.records[n].pending = false →
      raise n detail s =
        { s with
          events :=
            { s.events with records := s.events.records.set n { pending := true, detail := detail, count := 1 } } }) ∧
    (s.enabled n = true → s.events.records[n].pending = true →
      raise n detail s =
        { s with
          events :=
            { s.events with
              records :=
                s.events.records.set n
                  { pending := true, detail := detail, count := min (s.events.records[n].count + 1) 255 } } }) ∧
    (s.enabled n = true → (raise n later (raise n detail s)).events.records[n].detail = later) ∧
    ∀ m : Fin 22, m ≠ n → raise m later (raise n detail s) = raise n detail (raise m later s)

/-! ## What every step keeps -/

/-- Every law of Safety.lean holds after master reset, with the values that State.reset names where the manual gives none (log
entry 7) and the empty queue of the model's own (log entry 24). -/
def Obligations.ResetIsLawful : Prop :=
  State.reset.ReplyLaw ∧ State.reset.LossLaw ∧ State.reset.LoadLaw ∧ State.reset.WarningLaw ∧
    State.reset.OverlapLaw ∧ State.reset.DryLaw ∧ State.reset.LevelLaw ∧ State.reset.FrameLaw ∧
    State.reset.EventLaw ∧ State.reset.TimerLaw ∧ State.reset.RangeLaw ∧ State.reset.DemandLaw ∧
    State.reset.pending = []

/-- Every step keeps the Reply Queue within 8 entries, its one reserved entry that of the one-shot slot (2.3, 3.2). -/
def Obligations.RepliesKept : Prop := ∀ s t : State, s.ReplyLaw → step s = .next t → t.ReplyLaw

/-- Every step keeps committed load within the active budget, with the conditions that keep it so (9.2 to 9.4). -/
def Obligations.LoadKept : Prop := ∀ s t : State, s.LoadLaw → step s = .next t → t.LoadLaw

/-- Every step keeps the warning channels at 255 exactly while a gate forces them (7.2, 8.3). -/
def Obligations.WarningsKept : Prop := ∀ s t : State, s.WarningLaw → step s = .next t → t.WarningLaw

/-- Every step keeps what the pump group and the gates were last told equal to the effective demands, and every record without
a supervisory part while the loop is LOST (1.3, 5.5). That a command row on a LOST loop brings it UP is log entry 4. -/
def Obligations.DemandsKept : Prop := ∀ s t : State, s.DemandLaw → step s = .next t → t.DemandLaw

/-- Every step keeps the valid action entries free of overlaps (5.2). -/
def Obligations.NoOverlapKept : Prop := ∀ s t : State, s.OverlapLaw → step s = .next t → t.OverlapLaw

/-- Every step keeps all run outputs off while dry protection is in force (6.3). -/
def Obligations.DryProtectionKept : Prop := ∀ s t : State, s.DryLaw → step s = .next t → t.DryLaw

/-- Every step keeps the levels, the level bands and the values bounded by rule in their ranges, and every effective band that
of its level band, surge flag and float input (1.3, 3.3, 3.4, 3.6, 4.3, 4.6, 4.7). -/
def Obligations.ValuesKept : Prop :=
  ∀ s t : State, s.LevelLaw → s.RangeLaw → step s = .next t → t.LevelLaw ∧ t.RangeLaw

/-- Every step keeps each gate's and pump's timers running in their own states alone, and the retry counts and start logs
within their bounds (6.2, 6.4, 7.4). The bound of the retry count is log entry 15. -/
def Obligations.TimersKept : Prop := ∀ s t : State, s.TimerLaw → step s = .next t → t.TimerLaw

/-- Every step keeps the frames waiting and leaving within their lengths with a correct check word, the event records
coherent and the loss alarms set above their thresholds (1.1, 4.11, 10.2). -/
def Obligations.RecordsKept : Prop :=
  ∀ s t : State, step s = .next t →
    (s.FrameLaw → t.FrameLaw) ∧ (s.EventLaw → t.EventLaw) ∧ (s.LossLaw → t.LossLaw)
end

