-- ==== Sys2Proof/Laws/State.lean ====
section
/-! SUPPORT. One lemma per field for each named update of State, so that no proof unfolds a record update; and what a
replaced member of a table reads as. -/

namespace Sys2Proof.Machine

/-- A vector with one member replaced, read at an index. -/
theorem vector_set_get {α : Type} {n : Nat} (v : Vector α n) (i j : Fin n) (x : α) :
    (v.set i x)[j] = if i = j then x else v[j] := by
  simp only [Fin.getElem_fin, Vector.getElem_set, Fin.ext_iff]

/-- A vector built from a function, read at an index. -/
@[simp] theorem vector_ofFn_get {α : Type} {n : Nat} (f : Fin n → α) (j : Fin n) : (Vector.ofFn f)[j] = f j := by
  simp [Fin.getElem_fin]

@[simp] theorem putTag_time (s : State) (i : Fin 16) (x : TagEntry) : (s.putTag i x).time = s.time := rfl
@[simp] theorem putTag_loop (s : State) (i : Fin 16) (x : TagEntry) : (s.putTag i x).loop = s.loop := rfl
@[simp] theorem putTag_tags (s : State) (i : Fin 16) (x : TagEntry) : (s.putTag i x).tags = s.tags.set i x := rfl
@[simp] theorem putTag_slots (s : State) (i : Fin 16) (x : TagEntry) : (s.putTag i x).slots = s.slots := rfl
@[simp] theorem putTag_unit (s : State) (i : Fin 16) (x : TagEntry) : (s.putTag i x).unit = s.unit := rfl
@[simp] theorem putTag_replies (s : State) (i : Fin 16) (x : TagEntry) : (s.putTag i x).replies = s.replies := rfl
@[simp] theorem putTag_converter (s : State) (i : Fin 16) (x : TagEntry) : (s.putTag i x).converter = s.converter := rfl
@[simp] theorem putTag_gain (s : State) (i : Fin 16) (x : TagEntry) : (s.putTag i x).gain = s.gain := rfl
@[simp] theorem putTag_factory (s : State) (i : Fin 16) (x : TagEntry) : (s.putTag i x).factory = s.factory := rfl
@[simp] theorem putTag_analog (s : State) (i : Fin 16) (x : TagEntry) : (s.putTag i x).analog = s.analog := rfl
@[simp] theorem putTag_digital (s : State) (i : Fin 16) (x : TagEntry) : (s.putTag i x).digital = s.digital := rfl
@[simp] theorem putTag_trackers (s : State) (i : Fin 16) (x : TagEntry) : (s.putTag i x).trackers = s.trackers := rfl
@[simp] theorem putTag_plan (s : State) (i : Fin 16) (x : TagEntry) : (s.putTag i x).plan = s.plan := rfl
@[simp] theorem putTag_actions (s : State) (i : Fin 16) (x : TagEntry) : (s.putTag i x).actions = s.actions := rfl
@[simp] theorem putTag_demands (s : State) (i : Fin 16) (x : TagEntry) : (s.putTag i x).demands = s.demands := rfl
@[simp] theorem putTag_pumps (s : State) (i : Fin 16) (x : TagEntry) : (s.putTag i x).pumps = s.pumps := rfl
@[simp] theorem putTag_group (s : State) (i : Fin 16) (x : TagEntry) : (s.putTag i x).group = s.group := rfl
@[simp] theorem putTag_gates (s : State) (i : Fin 16) (x : TagEntry) : (s.putTag i x).gates = s.gates := rfl
@[simp] theorem putTag_lamps (s : State) (i : Fin 16) (x : TagEntry) : (s.putTag i x).lamps = s.lamps := rfl
@[simp] theorem putTag_scenes (s : State) (i : Fin 16) (x : TagEntry) : (s.putTag i x).scenes = s.scenes := rfl
@[simp] theorem putTag_allocator (s : State) (i : Fin 16) (x : TagEntry) : (s.putTag i x).allocator = s.allocator := rfl
@[simp] theorem putTag_report (s : State) (i : Fin 16) (x : TagEntry) : (s.putTag i x).report = s.report := rfl
@[simp] theorem putTag_events (s : State) (i : Fin 16) (x : TagEntry) : (s.putTag i x).events = s.events := rfl
@[simp] theorem putTag_beacon (s : State) (i : Fin 16) (x : TagEntry) : (s.putTag i x).beacon = s.beacon := rfl
@[simp] theorem putTag_arbiter (s : State) (i : Fin 16) (x : TagEntry) : (s.putTag i x).arbiter = s.arbiter := rfl
@[simp] theorem putTag_pending (s : State) (i : Fin 16) (x : TagEntry) : (s.putTag i x).pending = s.pending := rfl
/-- The members of the table after one is replaced. -/
theorem putTag_get (s : State) (i j : Fin 16) (x : TagEntry) :
    (s.putTag i x).tags[j] = if i = j then x else s.tags[j] := vector_set_get ..
/-- The member replaced reads as its new value. -/
theorem putTag_get_self (s : State) (i : Fin 16) (x : TagEntry) : (s.putTag i x).tags[i] = x := by
  simp

@[simp] theorem putSlot_time (s : State) (i : Fin 8) (x : Slot) : (s.putSlot i x).time = s.time := rfl
@[simp] theorem putSlot_loop (s : State) (i : Fin 8) (x : Slot) : (s.putSlot i x).loop = s.loop := rfl
@[simp] theorem putSlot_tags (s : State) (i : Fin 8) (x : Slot) : (s.putSlot i x).tags = s.tags := rfl
@[simp] theorem putSlot_slots (s : State) (i : Fin 8) (x : Slot) : (s.putSlot i x).slots = s.slots.set i x := rfl
@[simp] theorem putSlot_unit (s : State) (i : Fin 8) (x : Slot) : (s.putSlot i x).unit = s.unit := rfl
@[simp] theorem putSlot_replies (s : State) (i : Fin 8) (x : Slot) : (s.putSlot i x).replies = s.replies := rfl
@[simp] theorem putSlot_converter (s : State) (i : Fin 8) (x : Slot) : (s.putSlot i x).converter = s.converter := rfl
@[simp] theorem putSlot_gain (s : State) (i : Fin 8) (x : Slot) : (s.putSlot i x).gain = s.gain := rfl
@[simp] theorem putSlot_factory (s : State) (i : Fin 8) (x : Slot) : (s.putSlot i x).factory = s.factory := rfl
@[simp] theorem putSlot_analog (s : State) (i : Fin 8) (x : Slot) : (s.putSlot i x).analog = s.analog := rfl
@[simp] theorem putSlot_digital (s : State) (i : Fin 8) (x : Slot) : (s.putSlot i x).digital = s.digital := rfl
@[simp] theorem putSlot_trackers (s : State) (i : Fin 8) (x : Slot) : (s.putSlot i x).trackers = s.trackers := rfl
@[simp] theorem putSlot_plan (s : State) (i : Fin 8) (x : Slot) : (s.putSlot i x).plan = s.plan := rfl
@[simp] theorem putSlot_actions (s : State) (i : Fin 8) (x : Slot) : (s.putSlot i x).actions = s.actions := rfl
@[simp] theorem putSlot_demands (s : State) (i : Fin 8) (x : Slot) : (s.putSlot i x).demands = s.demands := rfl
@[simp] theorem putSlot_pumps (s : State) (i : Fin 8) (x : Slot) : (s.putSlot i x).pumps = s.pumps := rfl
@[simp] theorem putSlot_group (s : State) (i : Fin 8) (x : Slot) : (s.putSlot i x).group = s.group := rfl
@[simp] theorem putSlot_gates (s : State) (i : Fin 8) (x : Slot) : (s.putSlot i x).gates = s.gates := rfl
@[simp] theorem putSlot_lamps (s : State) (i : Fin 8) (x : Slot) : (s.putSlot i x).lamps = s.lamps := rfl
@[simp] theorem putSlot_scenes (s : State) (i : Fin 8) (x : Slot) : (s.putSlot i x).scenes = s.scenes := rfl
@[simp] theorem putSlot_allocator (s : State) (i : Fin 8) (x : Slot) : (s.putSlot i x).allocator = s.allocator := rfl
@[simp] theorem putSlot_report (s : State) (i : Fin 8) (x : Slot) : (s.putSlot i x).report = s.report := rfl
@[simp] theorem putSlot_events (s : State) (i : Fin 8) (x : Slot) : (s.putSlot i x).events = s.events := rfl
@[simp] theorem putSlot_beacon (s : State) (i : Fin 8) (x : Slot) : (s.putSlot i x).beacon = s.beacon := rfl
@[simp] theorem putSlot_arbiter (s : State) (i : Fin 8) (x : Slot) : (s.putSlot i x).arbiter = s.arbiter := rfl
@[simp] theorem putSlot_pending (s : State) (i : Fin 8) (x : Slot) : (s.putSlot i x).pending = s.pending := rfl
/-- The members of the table after one is replaced. -/
theorem putSlot_get (s : State) (i j : Fin 8) (x : Slot) :
    (s.putSlot i x).slots[j] = if i = j then x else s.slots[j] := vector_set_get ..
/-- The member replaced reads as its new value. -/
theorem putSlot_get_self (s : State) (i : Fin 8) (x : Slot) : (s.putSlot i x).slots[i] = x := by
  simp

@[simp] theorem putAnalog_time (s : State) (i : Fin 16) (x : Analog) : (s.putAnalog i x).time = s.time := rfl
@[simp] theorem putAnalog_loop (s : State) (i : Fin 16) (x : Analog) : (s.putAnalog i x).loop = s.loop := rfl
@[simp] theorem putAnalog_tags (s : State) (i : Fin 16) (x : Analog) : (s.putAnalog i x).tags = s.tags := rfl
@[simp] theorem putAnalog_slots (s : State) (i : Fin 16) (x : Analog) : (s.putAnalog i x).slots = s.slots := rfl
@[simp] theorem putAnalog_unit (s : State) (i : Fin 16) (x : Analog) : (s.putAnalog i x).unit = s.unit := rfl
@[simp] theorem putAnalog_replies (s : State) (i : Fin 16) (x : Analog) : (s.putAnalog i x).replies = s.replies := rfl
@[simp] theorem putAnalog_converter (s : State) (i : Fin 16) (x : Analog) : (s.putAnalog i x).converter = s.converter := rfl
@[simp] theorem putAnalog_gain (s : State) (i : Fin 16) (x : Analog) : (s.putAnalog i x).gain = s.gain := rfl
@[simp] theorem putAnalog_factory (s : State) (i : Fin 16) (x : Analog) : (s.putAnalog i x).factory = s.factory := rfl
@[simp] theorem putAnalog_analog (s : State) (i : Fin 16) (x : Analog) : (s.putAnalog i x).analog = s.analog.set i x := rfl
@[simp] theorem putAnalog_digital (s : State) (i : Fin 16) (x : Analog) : (s.putAnalog i x).digital = s.digital := rfl
@[simp] theorem putAnalog_trackers (s : State) (i : Fin 16) (x : Analog) : (s.putAnalog i x).trackers = s.trackers := rfl
@[simp] theorem putAnalog_plan (s : State) (i : Fin 16) (x : Analog) : (s.putAnalog i x).plan = s.plan := rfl
@[simp] theorem putAnalog_actions (s : State) (i : Fin 16) (x : Analog) : (s.putAnalog i x).actions = s.actions := rfl
@[simp] theorem putAnalog_demands (s : State) (i : Fin 16) (x : Analog) : (s.putAnalog i x).demands = s.demands := rfl
@[simp] theorem putAnalog_pumps (s : State) (i : Fin 16) (x : Analog) : (s.putAnalog i x).pumps = s.pumps := rfl
@[simp] theorem putAnalog_group (s : State) (i : Fin 16) (x : Analog) : (s.putAnalog i x).group = s.group := rfl
@[simp] theorem putAnalog_gates (s : State) (i : Fin 16) (x : Analog) : (s.putAnalog i x).gates = s.gates := rfl
@[simp] theorem putAnalog_lamps (s : State) (i : Fin 16) (x : Analog) : (s.putAnalog i x).lamps = s.lamps := rfl
@[simp] theorem putAnalog_scenes (s : State) (i : Fin 16) (x : Analog) : (s.putAnalog i x).scenes = s.scenes := rfl
@[simp] theorem putAnalog_allocator (s : State) (i : Fin 16) (x : Analog) : (s.putAnalog i x).allocator = s.allocator := rfl
@[simp] theorem putAnalog_report (s : State) (i : Fin 16) (x : Analog) : (s.putAnalog i x).report = s.report := rfl
@[simp] theorem putAnalog_events (s : State) (i : Fin 16) (x : Analog) : (s.putAnalog i x).events = s.events := rfl
@[simp] theorem putAnalog_beacon (s : State) (i : Fin 16) (x : Analog) : (s.putAnalog i x).beacon = s.beacon := rfl
@[simp] theorem putAnalog_arbiter (s : State) (i : Fin 16) (x : Analog) : (s.putAnalog i x).arbiter = s.arbiter := rfl
@[simp] theorem putAnalog_pending (s : State) (i : Fin 16) (x : Analog) : (s.putAnalog i x).pending = s.pending := rfl
/-- The members of the table after one is replaced. -/
theorem putAnalog_get (s : State) (i j : Fin 16) (x : Analog) :
    (s.putAnalog i x).analog[j] = if i = j then x else s.analog[j] := vector_set_get ..
/-- The member replaced reads as its new value. -/
theorem putAnalog_get_self (s : State) (i : Fin 16) (x : Analog) : (s.putAnalog i x).analog[i] = x := by
  simp

@[simp] theorem putDigital_time (s : State) (i : Fin 16) (x : Digital) : (s.putDigital i x).time = s.time := rfl
@[simp] theorem putDigital_loop (s : State) (i : Fin 16) (x : Digital) : (s.putDigital i x).loop = s.loop := rfl
@[simp] theorem putDigital_tags (s : State) (i : Fin 16) (x : Digital) : (s.putDigital i x).tags = s.tags := rfl
@[simp] theorem putDigital_slots (s : State) (i : Fin 16) (x : Digital) : (s.putDigital i x).slots = s.slots := rfl
@[simp] theorem putDigital_unit (s : State) (i : Fin 16) (x : Digital) : (s.putDigital i x).unit = s.unit := rfl
@[simp] theorem putDigital_replies (s : State) (i : Fin 16) (x : Digital) : (s.putDigital i x).replies = s.replies := rfl
@[simp] theorem putDigital_converter (s : State) (i : Fin 16) (x : Digital) : (s.putDigital i x).converter = s.converter := rfl
@[simp] theorem putDigital_gain (s : State) (i : Fin 16) (x : Digital) : (s.putDigital i x).gain = s.gain := rfl
@[simp] theorem putDigital_factory (s : State) (i : Fin 16) (x : Digital) : (s.putDigital i x).factory = s.factory := rfl
@[simp] theorem putDigital_analog (s : State) (i : Fin 16) (x : Digital) : (s.putDigital i x).analog = s.analog := rfl
@[simp] theorem putDigital_digital (s : State) (i : Fin 16) (x : Digital) : (s.putDigital i x).digital = s.digital.set i x := rfl
@[simp] theorem putDigital_trackers (s : State) (i : Fin 16) (x : Digital) : (s.putDigital i x).trackers = s.trackers := rfl
@[simp] theorem putDigital_plan (s : State) (i : Fin 16) (x : Digital) : (s.putDigital i x).plan = s.plan := rfl
@[simp] theorem putDigital_actions (s : State) (i : Fin 16) (x : Digital) : (s.putDigital i x).actions = s.actions := rfl
@[simp] theorem putDigital_demands (s : State) (i : Fin 16) (x : Digital) : (s.putDigital i x).demands = s.demands := rfl
@[simp] theorem putDigital_pumps (s : State) (i : Fin 16) (x : Digital) : (s.putDigital i x).pumps = s.pumps := rfl
@[simp] theorem putDigital_group (s : State) (i : Fin 16) (x : Digital) : (s.putDigital i x).group = s.group := rfl
@[simp] theorem putDigital_gates (s : State) (i : Fin 16) (x : Digital) : (s.putDigital i x).gates = s.gates := rfl
@[simp] theorem putDigital_lamps (s : State) (i : Fin 16) (x : Digital) : (s.putDigital i x).lamps = s.lamps := rfl
@[simp] theorem putDigital_scenes (s : State) (i : Fin 16) (x : Digital) : (s.putDigital i x).scenes = s.scenes := rfl
@[simp] theorem putDigital_allocator (s : State) (i : Fin 16) (x : Digital) : (s.putDigital i x).allocator = s.allocator := rfl
@[simp] theorem putDigital_report (s : State) (i : Fin 16) (x : Digital) : (s.putDigital i x).report = s.report := rfl
@[simp] theorem putDigital_events (s : State) (i : Fin 16) (x : Digital) : (s.putDigital i x).events = s.events := rfl
@[simp] theorem putDigital_beacon (s : State) (i : Fin 16) (x : Digital) : (s.putDigital i x).beacon = s.beacon := rfl
@[simp] theorem putDigital_arbiter (s : State) (i : Fin 16) (x : Digital) : (s.putDigital i x).arbiter = s.arbiter := rfl
@[simp] theorem putDigital_pending (s : State) (i : Fin 16) (x : Digital) : (s.putDigital i x).pending = s.pending := rfl
/-- The members of the table after one is replaced. -/
theorem putDigital_get (s : State) (i j : Fin 16) (x : Digital) :
    (s.putDigital i x).digital[j] = if i = j then x else s.digital[j] := vector_set_get ..
/-- The member replaced reads as its new value. -/
theorem putDigital_get_self (s : State) (i : Fin 16) (x : Digital) : (s.putDigital i x).digital[i] = x := by
  simp

@[simp] theorem putTracker_time (s : State) (i : Fin 4) (x : Tracker) : (s.putTracker i x).time = s.time := rfl
@[simp] theorem putTracker_loop (s : State) (i : Fin 4) (x : Tracker) : (s.putTracker i x).loop = s.loop := rfl
@[simp] theorem putTracker_tags (s : State) (i : Fin 4) (x : Tracker) : (s.putTracker i x).tags = s.tags := rfl
@[simp] theorem putTracker_slots (s : State) (i : Fin 4) (x : Tracker) : (s.putTracker i x).slots = s.slots := rfl
@[simp] theorem putTracker_unit (s : State) (i : Fin 4) (x : Tracker) : (s.putTracker i x).unit = s.unit := rfl
@[simp] theorem putTracker_replies (s : State) (i : Fin 4) (x : Tracker) : (s.putTracker i x).replies = s.replies := rfl
@[simp] theorem putTracker_converter (s : State) (i : Fin 4) (x : Tracker) : (s.putTracker i x).converter = s.converter := rfl
@[simp] theorem putTracker_gain (s : State) (i : Fin 4) (x : Tracker) : (s.putTracker i x).gain = s.gain := rfl
@[simp] theorem putTracker_factory (s : State) (i : Fin 4) (x : Tracker) : (s.putTracker i x).factory = s.factory := rfl
@[simp] theorem putTracker_analog (s : State) (i : Fin 4) (x : Tracker) : (s.putTracker i x).analog = s.analog := rfl
@[simp] theorem putTracker_digital (s : State) (i : Fin 4) (x : Tracker) : (s.putTracker i x).digital = s.digital := rfl
@[simp] theorem putTracker_trackers (s : State) (i : Fin 4) (x : Tracker) : (s.putTracker i x).trackers = s.trackers.set i x := rfl
@[simp] theorem putTracker_plan (s : State) (i : Fin 4) (x : Tracker) : (s.putTracker i x).plan = s.plan := rfl
@[simp] theorem putTracker_actions (s : State) (i : Fin 4) (x : Tracker) : (s.putTracker i x).actions = s.actions := rfl
@[simp] theorem putTracker_demands (s : State) (i : Fin 4) (x : Tracker) : (s.putTracker i x).demands = s.demands := rfl
@[simp] theorem putTracker_pumps (s : State) (i : Fin 4) (x : Tracker) : (s.putTracker i x).pumps = s.pumps := rfl
@[simp] theorem putTracker_group (s : State) (i : Fin 4) (x : Tracker) : (s.putTracker i x).group = s.group := rfl
@[simp] theorem putTracker_gates (s : State) (i : Fin 4) (x : Tracker) : (s.putTracker i x).gates = s.gates := rfl
@[simp] theorem putTracker_lamps (s : State) (i : Fin 4) (x : Tracker) : (s.putTracker i x).lamps = s.lamps := rfl
@[simp] theorem putTracker_scenes (s : State) (i : Fin 4) (x : Tracker) : (s.putTracker i x).scenes = s.scenes := rfl
@[simp] theorem putTracker_allocator (s : State) (i : Fin 4) (x : Tracker) : (s.putTracker i x).allocator = s.allocator := rfl
@[simp] theorem putTracker_report (s : State) (i : Fin 4) (x : Tracker) : (s.putTracker i x).report = s.report := rfl
@[simp] theorem putTracker_events (s : State) (i : Fin 4) (x : Tracker) : (s.putTracker i x).events = s.events := rfl
@[simp] theorem putTracker_beacon (s : State) (i : Fin 4) (x : Tracker) : (s.putTracker i x).beacon = s.beacon := rfl
@[simp] theorem putTracker_arbiter (s : State) (i : Fin 4) (x : Tracker) : (s.putTracker i x).arbiter = s.arbiter := rfl
@[simp] theorem putTracker_pending (s : State) (i : Fin 4) (x : Tracker) : (s.putTracker i x).pending = s.pending := rfl
/-- The members of the table after one is replaced. -/
theorem putTracker_get (s : State) (i j : Fin 4) (x : Tracker) :
    (s.putTracker i x).trackers[j] = if i = j then x else s.trackers[j] := vector_set_get ..
/-- The member replaced reads as its new value. -/
theorem putTracker_get_self (s : State) (i : Fin 4) (x : Tracker) : (s.putTracker i x).trackers[i] = x := by
  simp

@[simp] theorem putAction_time (s : State) (i : Fin 64) (x : ActionEntry) : (s.putAction i x).time = s.time := rfl
@[simp] theorem putAction_loop (s : State) (i : Fin 64) (x : ActionEntry) : (s.putAction i x).loop = s.loop := rfl
@[simp] theorem putAction_tags (s : State) (i : Fin 64) (x : ActionEntry) : (s.putAction i x).tags = s.tags := rfl
@[simp] theorem putAction_slots (s : State) (i : Fin 64) (x : ActionEntry) : (s.putAction i x).slots = s.slots := rfl
@[simp] theorem putAction_unit (s : State) (i : Fin 64) (x : ActionEntry) : (s.putAction i x).unit = s.unit := rfl
@[simp] theorem putAction_replies (s : State) (i : Fin 64) (x : ActionEntry) : (s.putAction i x).replies = s.replies := rfl
@[simp] theorem putAction_converter (s : State) (i : Fin 64) (x : ActionEntry) : (s.putAction i x).converter = s.converter := rfl
@[simp] theorem putAction_gain (s : State) (i : Fin 64) (x : ActionEntry) : (s.putAction i x).gain = s.gain := rfl
@[simp] theorem putAction_factory (s : State) (i : Fin 64) (x : ActionEntry) : (s.putAction i x).factory = s.factory := rfl
@[simp] theorem putAction_analog (s : State) (i : Fin 64) (x : ActionEntry) : (s.putAction i x).analog = s.analog := rfl
@[simp] theorem putAction_digital (s : State) (i : Fin 64) (x : ActionEntry) : (s.putAction i x).digital = s.digital := rfl
@[simp] theorem putAction_trackers (s : State) (i : Fin 64) (x : ActionEntry) : (s.putAction i x).trackers = s.trackers := rfl
@[simp] theorem putAction_plan (s : State) (i : Fin 64) (x : ActionEntry) : (s.putAction i x).plan = s.plan := rfl
@[simp] theorem putAction_actions (s : State) (i : Fin 64) (x : ActionEntry) : (s.putAction i x).actions = s.actions.set i x := rfl
@[simp] theorem putAction_demands (s : State) (i : Fin 64) (x : ActionEntry) : (s.putAction i x).demands = s.demands := rfl
@[simp] theorem putAction_pumps (s : State) (i : Fin 64) (x : ActionEntry) : (s.putAction i x).pumps = s.pumps := rfl
@[simp] theorem putAction_group (s : State) (i : Fin 64) (x : ActionEntry) : (s.putAction i x).group = s.group := rfl
@[simp] theorem putAction_gates (s : State) (i : Fin 64) (x : ActionEntry) : (s.putAction i x).gates = s.gates := rfl
@[simp] theorem putAction_lamps (s : State) (i : Fin 64) (x : ActionEntry) : (s.putAction i x).lamps = s.lamps := rfl
@[simp] theorem putAction_scenes (s : State) (i : Fin 64) (x : ActionEntry) : (s.putAction i x).scenes = s.scenes := rfl
@[simp] theorem putAction_allocator (s : State) (i : Fin 64) (x : ActionEntry) : (s.putAction i x).allocator = s.allocator := rfl
@[simp] theorem putAction_report (s : State) (i : Fin 64) (x : ActionEntry) : (s.putAction i x).report = s.report := rfl
@[simp] theorem putAction_events (s : State) (i : Fin 64) (x : ActionEntry) : (s.putAction i x).events = s.events := rfl
@[simp] theorem putAction_beacon (s : State) (i : Fin 64) (x : ActionEntry) : (s.putAction i x).beacon = s.beacon := rfl
@[simp] theorem putAction_arbiter (s : State) (i : Fin 64) (x : ActionEntry) : (s.putAction i x).arbiter = s.arbiter := rfl
@[simp] theorem putAction_pending (s : State) (i : Fin 64) (x : ActionEntry) : (s.putAction i x).pending = s.pending := rfl
/-- The members of the table after one is replaced. -/
theorem putAction_get (s : State) (i j : Fin 64) (x : ActionEntry) :
    (s.putAction i x).actions[j] = if i = j then x else s.actions[j] := vector_set_get ..
/-- The member replaced reads as its new value. -/
theorem putAction_get_self (s : State) (i : Fin 64) (x : ActionEntry) : (s.putAction i x).actions[i] = x := by
  simp

@[simp] theorem putPump_time (s : State) (i : Fin 4) (x : Pump) : (s.putPump i x).time = s.time := rfl
@[simp] theorem putPump_loop (s : State) (i : Fin 4) (x : Pump) : (s.putPump i x).loop = s.loop := rfl
@[simp] theorem putPump_tags (s : State) (i : Fin 4) (x : Pump) : (s.putPump i x).tags = s.tags := rfl
@[simp] theorem putPump_slots (s : State) (i : Fin 4) (x : Pump) : (s.putPump i x).slots = s.slots := rfl
@[simp] theorem putPump_unit (s : State) (i : Fin 4) (x : Pump) : (s.putPump i x).unit = s.unit := rfl
@[simp] theorem putPump_replies (s : State) (i : Fin 4) (x : Pump) : (s.putPump i x).replies = s.replies := rfl
@[simp] theorem putPump_converter (s : State) (i : Fin 4) (x : Pump) : (s.putPump i x).converter = s.converter := rfl
@[simp] theorem putPump_gain (s : State) (i : Fin 4) (x : Pump) : (s.putPump i x).gain = s.gain := rfl
@[simp] theorem putPump_factory (s : State) (i : Fin 4) (x : Pump) : (s.putPump i x).factory = s.factory := rfl
@[simp] theorem putPump_analog (s : State) (i : Fin 4) (x : Pump) : (s.putPump i x).analog = s.analog := rfl
@[simp] theorem putPump_digital (s : State) (i : Fin 4) (x : Pump) : (s.putPump i x).digital = s.digital := rfl
@[simp] theorem putPump_trackers (s : State) (i : Fin 4) (x : Pump) : (s.putPump i x).trackers = s.trackers := rfl
@[simp] theorem putPump_plan (s : State) (i : Fin 4) (x : Pump) : (s.putPump i x).plan = s.plan := rfl
@[simp] theorem putPump_actions (s : State) (i : Fin 4) (x : Pump) : (s.putPump i x).actions = s.actions := rfl
@[simp] theorem putPump_demands (s : State) (i : Fin 4) (x : Pump) : (s.putPump i x).demands = s.demands := rfl
@[simp] theorem putPump_pumps (s : State) (i : Fin 4) (x : Pump) : (s.putPump i x).pumps = s.pumps.set i x := rfl
@[simp] theorem putPump_group (s : State) (i : Fin 4) (x : Pump) : (s.putPump i x).group = s.group := rfl
@[simp] theorem putPump_gates (s : State) (i : Fin 4) (x : Pump) : (s.putPump i x).gates = s.gates := rfl
@[simp] theorem putPump_lamps (s : State) (i : Fin 4) (x : Pump) : (s.putPump i x).lamps = s.lamps := rfl
@[simp] theorem putPump_scenes (s : State) (i : Fin 4) (x : Pump) : (s.putPump i x).scenes = s.scenes := rfl
@[simp] theorem putPump_allocator (s : State) (i : Fin 4) (x : Pump) : (s.putPump i x).allocator = s.allocator := rfl
@[simp] theorem putPump_report (s : State) (i : Fin 4) (x : Pump) : (s.putPump i x).report = s.report := rfl
@[simp] theorem putPump_events (s : State) (i : Fin 4) (x : Pump) : (s.putPump i x).events = s.events := rfl
@[simp] theorem putPump_beacon (s : State) (i : Fin 4) (x : Pump) : (s.putPump i x).beacon = s.beacon := rfl
@[simp] theorem putPump_arbiter (s : State) (i : Fin 4) (x : Pump) : (s.putPump i x).arbiter = s.arbiter := rfl
@[simp] theorem putPump_pending (s : State) (i : Fin 4) (x : Pump) : (s.putPump i x).pending = s.pending := rfl
/-- The members of the table after one is replaced. -/
theorem putPump_get (s : State) (i j : Fin 4) (x : Pump) :
    (s.putPump i x).pumps[j] = if i = j then x else s.pumps[j] := vector_set_get ..
/-- The member replaced reads as its new value. -/
theorem putPump_get_self (s : State) (i : Fin 4) (x : Pump) : (s.putPump i x).pumps[i] = x := by
  simp

@[simp] theorem putGate_time (s : State) (i : Fin 2) (x : Gate) : (s.putGate i x).time = s.time := rfl
@[simp] theorem putGate_loop (s : State) (i : Fin 2) (x : Gate) : (s.putGate i x).loop = s.loop := rfl
@[simp] theorem putGate_tags (s : State) (i : Fin 2) (x : Gate) : (s.putGate i x).tags = s.tags := rfl
@[simp] theorem putGate_slots (s : State) (i : Fin 2) (x : Gate) : (s.putGate i x).slots = s.slots := rfl
@[simp] theorem putGate_unit (s : State) (i : Fin 2) (x : Gate) : (s.putGate i x).unit = s.unit := rfl
@[simp] theorem putGate_replies (s : State) (i : Fin 2) (x : Gate) : (s.putGate i x).replies = s.replies := rfl
@[simp] theorem putGate_converter (s : State) (i : Fin 2) (x : Gate) : (s.putGate i x).converter = s.converter := rfl
@[simp] theorem putGate_gain (s : State) (i : Fin 2) (x : Gate) : (s.putGate i x).gain = s.gain := rfl
@[simp] theorem putGate_factory (s : State) (i : Fin 2) (x : Gate) : (s.putGate i x).factory = s.factory := rfl
@[simp] theorem putGate_analog (s : State) (i : Fin 2) (x : Gate) : (s.putGate i x).analog = s.analog := rfl
@[simp] theorem putGate_digital (s : State) (i : Fin 2) (x : Gate) : (s.putGate i x).digital = s.digital := rfl
@[simp] theorem putGate_trackers (s : State) (i : Fin 2) (x : Gate) : (s.putGate i x).trackers = s.trackers := rfl
@[simp] theorem putGate_plan (s : State) (i : Fin 2) (x : Gate) : (s.putGate i x).plan = s.plan := rfl
@[simp] theorem putGate_actions (s : State) (i : Fin 2) (x : Gate) : (s.putGate i x).actions = s.actions := rfl
@[simp] theorem putGate_demands (s : State) (i : Fin 2) (x : Gate) : (s.putGate i x).demands = s.demands := rfl
@[simp] theorem putGate_pumps (s : State) (i : Fin 2) (x : Gate) : (s.putGate i x).pumps = s.pumps := rfl
@[simp] theorem putGate_group (s : State) (i : Fin 2) (x : Gate) : (s.putGate i x).group = s.group := rfl
@[simp] theorem putGate_gates (s : State) (i : Fin 2) (x : Gate) : (s.putGate i x).gates = s.gates.set i x := rfl
@[simp] theorem putGate_lamps (s : State) (i : Fin 2) (x : Gate) : (s.putGate i x).lamps = s.lamps := rfl
@[simp] theorem putGate_scenes (s : State) (i : Fin 2) (x : Gate) : (s.putGate i x).scenes = s.scenes := rfl
@[simp] theorem putGate_allocator (s : State) (i : Fin 2) (x : Gate) : (s.putGate i x).allocator = s.allocator := rfl
@[simp] theorem putGate_report (s : State) (i : Fin 2) (x : Gate) : (s.putGate i x).report = s.report := rfl
@[simp] theorem putGate_events (s : State) (i : Fin 2) (x : Gate) : (s.putGate i x).events = s.events := rfl
@[simp] theorem putGate_beacon (s : State) (i : Fin 2) (x : Gate) : (s.putGate i x).beacon = s.beacon := rfl
@[simp] theorem putGate_arbiter (s : State) (i : Fin 2) (x : Gate) : (s.putGate i x).arbiter = s.arbiter := rfl
@[simp] theorem putGate_pending (s : State) (i : Fin 2) (x : Gate) : (s.putGate i x).pending = s.pending := rfl
/-- The members of the table after one is replaced. -/
theorem putGate_get (s : State) (i j : Fin 2) (x : Gate) :
    (s.putGate i x).gates[j] = if i = j then x else s.gates[j] := vector_set_get ..
/-- The member replaced reads as its new value. -/
theorem putGate_get_self (s : State) (i : Fin 2) (x : Gate) : (s.putGate i x).gates[i] = x := by
  simp

@[simp] theorem putLamp_time (s : State) (i : Fin 8) (x : Lamp) : (s.putLamp i x).time = s.time := rfl
@[simp] theorem putLamp_loop (s : State) (i : Fin 8) (x : Lamp) : (s.putLamp i x).loop = s.loop := rfl
@[simp] theorem putLamp_tags (s : State) (i : Fin 8) (x : Lamp) : (s.putLamp i x).tags = s.tags := rfl
@[simp] theorem putLamp_slots (s : State) (i : Fin 8) (x : Lamp) : (s.putLamp i x).slots = s.slots := rfl
@[simp] theorem putLamp_unit (s : State) (i : Fin 8) (x : Lamp) : (s.putLamp i x).unit = s.unit := rfl
@[simp] theorem putLamp_replies (s : State) (i : Fin 8) (x : Lamp) : (s.putLamp i x).replies = s.replies := rfl
@[simp] theorem putLamp_converter (s : State) (i : Fin 8) (x : Lamp) : (s.putLamp i x).converter = s.converter := rfl
@[simp] theorem putLamp_gain (s : State) (i : Fin 8) (x : Lamp) : (s.putLamp i x).gain = s.gain := rfl
@[simp] theorem putLamp_factory (s : State) (i : Fin 8) (x : Lamp) : (s.putLamp i x).factory = s.factory := rfl
@[simp] theorem putLamp_analog (s : State) (i : Fin 8) (x : Lamp) : (s.putLamp i x).analog = s.analog := rfl
@[simp] theorem putLamp_digital (s : State) (i : Fin 8) (x : Lamp) : (s.putLamp i x).digital = s.digital := rfl
@[simp] theorem putLamp_trackers (s : State) (i : Fin 8) (x : Lamp) : (s.putLamp i x).trackers = s.trackers := rfl
@[simp] theorem putLamp_plan (s : State) (i : Fin 8) (x : Lamp) : (s.putLamp i x).plan = s.plan := rfl
@[simp] theorem putLamp_actions (s : State) (i : Fin 8) (x : Lamp) : (s.putLamp i x).actions = s.actions := rfl
@[simp] theorem putLamp_demands (s : State) (i : Fin 8) (x : Lamp) : (s.putLamp i x).demands = s.demands := rfl
@[simp] theorem putLamp_pumps (s : State) (i : Fin 8) (x : Lamp) : (s.putLamp i x).pumps = s.pumps := rfl
@[simp] theorem putLamp_group (s : State) (i : Fin 8) (x : Lamp) : (s.putLamp i x).group = s.group := rfl
@[simp] theorem putLamp_gates (s : State) (i : Fin 8) (x : Lamp) : (s.putLamp i x).gates = s.gates := rfl
@[simp] theorem putLamp_lamps (s : State) (i : Fin 8) (x : Lamp) : (s.putLamp i x).lamps = s.lamps.set i x := rfl
@[simp] theorem putLamp_scenes (s : State) (i : Fin 8) (x : Lamp) : (s.putLamp i x).scenes = s.scenes := rfl
@[simp] theorem putLamp_allocator (s : State) (i : Fin 8) (x : Lamp) : (s.putLamp i x).allocator = s.allocator := rfl
@[simp] theorem putLamp_report (s : State) (i : Fin 8) (x : Lamp) : (s.putLamp i x).report = s.report := rfl
@[simp] theorem putLamp_events (s : State) (i : Fin 8) (x : Lamp) : (s.putLamp i x).events = s.events := rfl
@[simp] theorem putLamp_beacon (s : State) (i : Fin 8) (x : Lamp) : (s.putLamp i x).beacon = s.beacon := rfl
@[simp] theorem putLamp_arbiter (s : State) (i : Fin 8) (x : Lamp) : (s.putLamp i x).arbiter = s.arbiter := rfl
@[simp] theorem putLamp_pending (s : State) (i : Fin 8) (x : Lamp) : (s.putLamp i x).pending = s.pending := rfl
/-- The members of the table after one is replaced. -/
theorem putLamp_get (s : State) (i j : Fin 8) (x : Lamp) :
    (s.putLamp i x).lamps[j] = if i = j then x else s.lamps[j] := vector_set_get ..
/-- The member replaced reads as its new value. -/
theorem putLamp_get_self (s : State) (i : Fin 8) (x : Lamp) : (s.putLamp i x).lamps[i] = x := by
  simp

@[simp] theorem putScene_time (s : State) (i : Fin 16) (x : Vector Nat 8) : (s.putScene i x).time = s.time := rfl
@[simp] theorem putScene_loop (s : State) (i : Fin 16) (x : Vector Nat 8) : (s.putScene i x).loop = s.loop := rfl
@[simp] theorem putScene_tags (s : State) (i : Fin 16) (x : Vector Nat 8) : (s.putScene i x).tags = s.tags := rfl
@[simp] theorem putScene_slots (s : State) (i : Fin 16) (x : Vector Nat 8) : (s.putScene i x).slots = s.slots := rfl
@[simp] theorem putScene_unit (s : State) (i : Fin 16) (x : Vector Nat 8) : (s.putScene i x).unit = s.unit := rfl
@[simp] theorem putScene_replies (s : State) (i : Fin 16) (x : Vector Nat 8) : (s.putScene i x).replies = s.replies := rfl
@[simp] theorem putScene_converter (s : State) (i : Fin 16) (x : Vector Nat 8) : (s.putScene i x).converter = s.converter := rfl
@[simp] theorem putScene_gain (s : State) (i : Fin 16) (x : Vector Nat 8) : (s.putScene i x).gain = s.gain := rfl
@[simp] theorem putScene_factory (s : State) (i : Fin 16) (x : Vector Nat 8) : (s.putScene i x).factory = s.factory := rfl
@[simp] theorem putScene_analog (s : State) (i : Fin 16) (x : Vector Nat 8) : (s.putScene i x).analog = s.analog := rfl
@[simp] theorem putScene_digital (s : State) (i : Fin 16) (x : Vector Nat 8) : (s.putScene i x).digital = s.digital := rfl
@[simp] theorem putScene_trackers (s : State) (i : Fin 16) (x : Vector Nat 8) : (s.putScene i x).trackers = s.trackers := rfl
@[simp] theorem putScene_plan (s : State) (i : Fin 16) (x : Vector Nat 8) : (s.putScene i x).plan = s.plan := rfl
@[simp] theorem putScene_actions (s : State) (i : Fin 16) (x : Vector Nat 8) : (s.putScene i x).actions = s.actions := rfl
@[simp] theorem putScene_demands (s : State) (i : Fin 16) (x : Vector Nat 8) : (s.putScene i x).demands = s.demands := rfl
@[simp] theorem putScene_pumps (s : State) (i : Fin 16) (x : Vector Nat 8) : (s.putScene i x).pumps = s.pumps := rfl
@[simp] theorem putScene_group (s : State) (i : Fin 16) (x : Vector Nat 8) : (s.putScene i x).group = s.group := rfl
@[simp] theorem putScene_gates (s : State) (i : Fin 16) (x : Vector Nat 8) : (s.putScene i x).gates = s.gates := rfl
@[simp] theorem putScene_lamps (s : State) (i : Fin 16) (x : Vector Nat 8) : (s.putScene i x).lamps = s.lamps := rfl
@[simp] theorem putScene_scenes (s : State) (i : Fin 16) (x : Vector Nat 8) : (s.putScene i x).scenes = s.scenes.set i x := rfl
@[simp] theorem putScene_allocator (s : State) (i : Fin 16) (x : Vector Nat 8) : (s.putScene i x).allocator = s.allocator := rfl
@[simp] theorem putScene_report (s : State) (i : Fin 16) (x : Vector Nat 8) : (s.putScene i x).report = s.report := rfl
@[simp] theorem putScene_events (s : State) (i : Fin 16) (x : Vector Nat 8) : (s.putScene i x).events = s.events := rfl
@[simp] theorem putScene_beacon (s : State) (i : Fin 16) (x : Vector Nat 8) : (s.putScene i x).beacon = s.beacon := rfl
@[simp] theorem putScene_arbiter (s : State) (i : Fin 16) (x : Vector Nat 8) : (s.putScene i x).arbiter = s.arbiter := rfl
@[simp] theorem putScene_pending (s : State) (i : Fin 16) (x : Vector Nat 8) : (s.putScene i x).pending = s.pending := rfl
/-- The members of the table after one is replaced. -/
theorem putScene_get (s : State) (i j : Fin 16) (x : Vector Nat 8) :
    (s.putScene i x).scenes[j] = if i = j then x else s.scenes[j] := vector_set_get ..
/-- The member replaced reads as its new value. -/
theorem putScene_get_self (s : State) (i : Fin 16) (x : Vector Nat 8) : (s.putScene i x).scenes[i] = x := by
  simp

@[simp] theorem putEvent_time (s : State) (n : Fin 22) (x : EventRecord) : (s.putEvent n x).time = s.time := rfl
@[simp] theorem putEvent_loop (s : State) (n : Fin 22) (x : EventRecord) : (s.putEvent n x).loop = s.loop := rfl
@[simp] theorem putEvent_tags (s : State) (n : Fin 22) (x : EventRecord) : (s.putEvent n x).tags = s.tags := rfl
@[simp] theorem putEvent_slots (s : State) (n : Fin 22) (x : EventRecord) : (s.putEvent n x).slots = s.slots := rfl
@[simp] theorem putEvent_unit (s : State) (n : Fin 22) (x : EventRecord) : (s.putEvent n x).unit = s.unit := rfl
@[simp] theorem putEvent_replies (s : State) (n : Fin 22) (x : EventRecord) : (s.putEvent n x).replies = s.replies := rfl
@[simp] theorem putEvent_converter (s : State) (n : Fin 22) (x : EventRecord) : (s.putEvent n x).converter = s.converter := rfl
@[simp] theorem putEvent_gain (s : State) (n : Fin 22) (x : EventRecord) : (s.putEvent n x).gain = s.gain := rfl
@[simp] theorem putEvent_factory (s : State) (n : Fin 22) (x : EventRecord) : (s.putEvent n x).factory = s.factory := rfl
@[simp] theorem putEvent_analog (s : State) (n : Fin 22) (x : EventRecord) : (s.putEvent n x).analog = s.analog := rfl
@[simp] theorem putEvent_digital (s : State) (n : Fin 22) (x : EventRecord) : (s.putEvent n x).digital = s.digital := rfl
@[simp] theorem putEvent_trackers (s : State) (n : Fin 22) (x : EventRecord) : (s.putEvent n x).trackers = s.trackers := rfl
@[simp] theorem putEvent_plan (s : State) (n : Fin 22) (x : EventRecord) : (s.putEvent n x).plan = s.plan := rfl
@[simp] theorem putEvent_actions (s : State) (n : Fin 22) (x : EventRecord) : (s.putEvent n x).actions = s.actions := rfl
@[simp] theorem putEvent_demands (s : State) (n : Fin 22) (x : EventRecord) : (s.putEvent n x).demands = s.demands := rfl
@[simp] theorem putEvent_pumps (s : State) (n : Fin 22) (x : EventRecord) : (s.putEvent n x).pumps = s.pumps := rfl
@[simp] theorem putEvent_group (s : State) (n : Fin 22) (x : EventRecord) : (s.putEvent n x).group = s.group := rfl
@[simp] theorem putEvent_gates (s : State) (n : Fin 22) (x : EventRecord) : (s.putEvent n x).gates = s.gates := rfl
@[simp] theorem putEvent_lamps (s : State) (n : Fin 22) (x : EventRecord) : (s.putEvent n x).lamps = s.lamps := rfl
@[simp] theorem putEvent_scenes (s : State) (n : Fin 22) (x : EventRecord) : (s.putEvent n x).scenes = s.scenes := rfl
@[simp] theorem putEvent_allocator (s : State) (n : Fin 22) (x : EventRecord) : (s.putEvent n x).allocator = s.allocator := rfl
@[simp] theorem putEvent_report (s : State) (n : Fin 22) (x : EventRecord) : (s.putEvent n x).report = s.report := rfl
@[simp] theorem putEvent_beacon (s : State) (n : Fin 22) (x : EventRecord) : (s.putEvent n x).beacon = s.beacon := rfl
@[simp] theorem putEvent_arbiter (s : State) (n : Fin 22) (x : EventRecord) : (s.putEvent n x).arbiter = s.arbiter := rfl
@[simp] theorem putEvent_pending (s : State) (n : Fin 22) (x : EventRecord) : (s.putEvent n x).pending = s.pending := rfl
@[simp] theorem putEvent_sequence (s : State) (n : Fin 22) (x : EventRecord) :
    (s.putEvent n x).events.sequence = s.events.sequence := rfl
/-- The event records after one is replaced. -/
theorem putEvent_get (s : State) (n m : Fin 22) (x : EventRecord) :
    (s.putEvent n x).events.records[m] = if n = m then x else s.events.records[m] := vector_set_get ..

@[simp] theorem mapLamps_time (s : State) (f : Fin 8 → Lamp → Lamp) : (s.mapLamps f).time = s.time := rfl
@[simp] theorem mapLamps_loop (s : State) (f : Fin 8 → Lamp → Lamp) : (s.mapLamps f).loop = s.loop := rfl
@[simp] theorem mapLamps_tags (s : State) (f : Fin 8 → Lamp → Lamp) : (s.mapLamps f).tags = s.tags := rfl
@[simp] theorem mapLamps_slots (s : State) (f : Fin 8 → Lamp → Lamp) : (s.mapLamps f).slots = s.slots := rfl
@[simp] theorem mapLamps_unit (s : State) (f : Fin 8 → Lamp → Lamp) : (s.mapLamps f).unit = s.unit := rfl
@[simp] theorem mapLamps_replies (s : State) (f : Fin 8 → Lamp → Lamp) : (s.mapLamps f).replies = s.replies := rfl
@[simp] theorem mapLamps_converter (s : State) (f : Fin 8 → Lamp → Lamp) : (s.mapLamps f).converter = s.converter := rfl
@[simp] theorem mapLamps_gain (s : State) (f : Fin 8 → Lamp → Lamp) : (s.mapLamps f).gain = s.gain := rfl
@[simp] theorem mapLamps_factory (s : State) (f : Fin 8 → Lamp → Lamp) : (s.mapLamps f).factory = s.factory := rfl
@[simp] theorem mapLamps_analog (s : State) (f : Fin 8 → Lamp → Lamp) : (s.mapLamps f).analog = s.analog := rfl
@[simp] theorem mapLamps_digital (s : State) (f : Fin 8 → Lamp → Lamp) : (s.mapLamps f).digital = s.digital := rfl
@[simp] theorem mapLamps_trackers (s : State) (f : Fin 8 → Lamp → Lamp) : (s.mapLamps f).trackers = s.trackers := rfl
@[simp] theorem mapLamps_plan (s : State) (f : Fin 8 → Lamp → Lamp) : (s.mapLamps f).plan = s.plan := rfl
@[simp] theorem mapLamps_actions (s : State) (f : Fin 8 → Lamp → Lamp) : (s.mapLamps f).actions = s.actions := rfl
@[simp] theorem mapLamps_demands (s : State) (f : Fin 8 → Lamp → Lamp) : (s.mapLamps f).demands = s.demands := rfl
@[simp] theorem mapLamps_pumps (s : State) (f : Fin 8 → Lamp → Lamp) : (s.mapLamps f).pumps = s.pumps := rfl
@[simp] theorem mapLamps_group (s : State) (f : Fin 8 → Lamp → Lamp) : (s.mapLamps f).group = s.group := rfl
@[simp] theorem mapLamps_gates (s : State) (f : Fin 8 → Lamp → Lamp) : (s.mapLamps f).gates = s.gates := rfl
@[simp] theorem mapLamps_scenes (s : State) (f : Fin 8 → Lamp → Lamp) : (s.mapLamps f).scenes = s.scenes := rfl
@[simp] theorem mapLamps_allocator (s : State) (f : Fin 8 → Lamp → Lamp) : (s.mapLamps f).allocator = s.allocator := rfl
@[simp] theorem mapLamps_report (s : State) (f : Fin 8 → Lamp → Lamp) : (s.mapLamps f).report = s.report := rfl
@[simp] theorem mapLamps_events (s : State) (f : Fin 8 → Lamp → Lamp) : (s.mapLamps f).events = s.events := rfl
@[simp] theorem mapLamps_beacon (s : State) (f : Fin 8 → Lamp → Lamp) : (s.mapLamps f).beacon = s.beacon := rfl
@[simp] theorem mapLamps_arbiter (s : State) (f : Fin 8 → Lamp → Lamp) : (s.mapLamps f).arbiter = s.arbiter := rfl
@[simp] theorem mapLamps_pending (s : State) (f : Fin 8 → Lamp → Lamp) : (s.mapLamps f).pending = s.pending := rfl
@[simp] theorem mapPumps_time (s : State) (f : Pump → Pump) : (s.mapPumps f).time = s.time := rfl
@[simp] theorem mapPumps_loop (s : State) (f : Pump → Pump) : (s.mapPumps f).loop = s.loop := rfl
@[simp] theorem mapPumps_tags (s : State) (f : Pump → Pump) : (s.mapPumps f).tags = s.tags := rfl
@[simp] theorem mapPumps_slots (s : State) (f : Pump → Pump) : (s.mapPumps f).slots = s.slots := rfl
@[simp] theorem mapPumps_unit (s : State) (f : Pump → Pump) : (s.mapPumps f).unit = s.unit := rfl
@[simp] theorem mapPumps_replies (s : State) (f : Pump → Pump) : (s.mapPumps f).replies = s.replies := rfl
@[simp] theorem mapPumps_converter (s : State) (f : Pump → Pump) : (s.mapPumps f).converter = s.converter := rfl
@[simp] theorem mapPumps_gain (s : State) (f : Pump → Pump) : (s.mapPumps f).gain = s.gain := rfl
@[simp] theorem mapPumps_factory (s : State) (f : Pump → Pump) : (s.mapPumps f).factory = s.factory := rfl
@[simp] theorem mapPumps_analog (s : State) (f : Pump → Pump) : (s.mapPumps f).analog = s.analog := rfl
@[simp] theorem mapPumps_digital (s : State) (f : Pump → Pump) : (s.mapPumps f).digital = s.digital := rfl
@[simp] theorem mapPumps_trackers (s : State) (f : Pump → Pump) : (s.mapPumps f).trackers = s.trackers := rfl
@[simp] theorem mapPumps_plan (s : State) (f : Pump → Pump) : (s.mapPumps f).plan = s.plan := rfl
@[simp] theorem mapPumps_actions (s : State) (f : Pump → Pump) : (s.mapPumps f).actions = s.actions := rfl
@[simp] theorem mapPumps_demands (s : State) (f : Pump → Pump) : (s.mapPumps f).demands = s.demands := rfl
@[simp] theorem mapPumps_group (s : State) (f : Pump → Pump) : (s.mapPumps f).group = s.group := rfl
@[simp] theorem mapPumps_gates (s : State) (f : Pump → Pump) : (s.mapPumps f).gates = s.gates := rfl
@[simp] theorem mapPumps_lamps (s : State) (f : Pump → Pump) : (s.mapPumps f).lamps = s.lamps := rfl
@[simp] theorem mapPumps_scenes (s : State) (f : Pump → Pump) : (s.mapPumps f).scenes = s.scenes := rfl
@[simp] theorem mapPumps_allocator (s : State) (f : Pump → Pump) : (s.mapPumps f).allocator = s.allocator := rfl
@[simp] theorem mapPumps_report (s : State) (f : Pump → Pump) : (s.mapPumps f).report = s.report := rfl
@[simp] theorem mapPumps_events (s : State) (f : Pump → Pump) : (s.mapPumps f).events = s.events := rfl
@[simp] theorem mapPumps_beacon (s : State) (f : Pump → Pump) : (s.mapPumps f).beacon = s.beacon := rfl
@[simp] theorem mapPumps_arbiter (s : State) (f : Pump → Pump) : (s.mapPumps f).arbiter = s.arbiter := rfl
@[simp] theorem mapPumps_pending (s : State) (f : Pump → Pump) : (s.mapPumps f).pending = s.pending := rfl
/-- Each lamp channel after all are changed. -/
@[simp] theorem mapLamps_get (s : State) (f : Fin 8 → Lamp → Lamp) (c : Fin 8) :
    (s.mapLamps f).lamps[c] = f c s.lamps[c] := vector_ofFn_get ..
/-- Each pump after all are changed. -/
@[simp] theorem mapPumps_get (s : State) (f : Pump → Pump) (p : Fin 4) : (s.mapPumps f).pumps[p] = f s.pumps[p] :=
  vector_ofFn_get ..

end Sys2Proof.Machine
end

