-- ==== Sys2Proof/Laws/Untouched.lean ====
section
/-! SUPPORT. No notice between blocks, and no operation that a notice is made of, touches what `Untouched` names. -/

namespace Sys2Proof.Machine

theorem Untouched.refl (s : State) : Untouched s s := by constructor <;> intros <;> rfl

theorem Untouched.trans {s t u : State} (a : Untouched s t) (b : Untouched t u) : Untouched s u where
  time := b.time.trans a.time
  loop := b.loop.trans a.loop
  tags := b.tags.trans a.tags
  slots := b.slots.trans a.slots
  unit := b.unit.trans a.unit
  replies := b.replies.trans a.replies
  converter := b.converter.trans a.converter
  gain := b.gain.trans a.gain
  factory := b.factory.trans a.factory
  analog := b.analog.trans a.analog
  digital := b.digital.trans a.digital
  trackers := b.trackers.trans a.trackers
  actions := b.actions.trans a.actions
  scenes := b.scenes.trans a.scenes
  report := b.report.trans a.report
  beacon := b.beacon.trans a.beacon
  pending := b.pending.trans a.pending
  budget := b.budget.trans a.budget
  writtenAt := b.writtenAt.trans a.writtenAt
  groupConfig := b.groupConfig.trans a.groupConfig
  pumpConfig p := (b.pumpConfig p).trans (a.pumpConfig p)
  gateConfig g := (b.gateConfig g).trans (a.gateConfig g)
  lampConfig c := (b.lampConfig c).trans (a.lampConfig c)

/-- Two states that differ at most in what the pumps, gates and lamps do with a notice: the plan register and the
demands are kept too. -/
structure Moved (s t : State) : Prop extends Untouched s t where
  plan : t.plan = s.plan
  demands : t.demands = s.demands

theorem Moved.refl (s : State) : Moved s s := ⟨.refl s, rfl, rfl⟩

theorem Moved.trans {s t u : State} (a : Moved s t) (b : Moved t u) : Moved s u :=
  ⟨a.toUntouched.trans b.toUntouched, b.plan.trans a.plan, b.demands.trans a.demands⟩

/-- A run of operations that touch nothing touches nothing. -/
theorem foldl_untouched {α : Type} (f : State → α → State) (h : ∀ s a, Untouched s (f s a)) (l : List α) (s : State) :
    Untouched s (l.foldl f s) := by
  induction l generalizing s with
  | nil => exact .refl s
  | cons a l ih => exact (h s a).trans (ih (f s a))

theorem ite_untouched {c : Prop} [Decidable c] {s t u : State} (a : Untouched s t) (b : Untouched s u) :
    Untouched s (if c then t else u) := by split <;> assumption

/-- A run of operations that touch nothing touches nothing. -/
theorem foldl_moved {α : Type} (f : State → α → State) (h : ∀ s a, Moved s (f s a)) (l : List α) (s : State) :
    Moved s (l.foldl f s) := by
  induction l generalizing s with
  | nil => exact .refl s
  | cons a l ih => exact (h s a).trans (ih (f s a))

theorem ite_moved {c : Prop} [Decidable c] {s t u : State} (a : Moved s t) (b : Moved s u) :
    Moved s (if c then t else u) := by split <;> assumption

/-! ## Updates -/

theorem putEvent_moved (s : State) (n : Fin 22) (x : EventRecord) : Moved s (s.putEvent n x) := by
  exact ⟨by constructor <;> intros <;> rfl, rfl, rfl⟩

theorem raise_moved (n : Fin 22) (detail : List Word) (s : State) : Moved s (raise n detail s) := by
  unfold raise
  exact ite_moved (putEvent_moved ..) (.refl s)

theorem putPump_moved {s : State} {p : Fin 4} {x : Pump} (h : x.config = s.pumps[p].config) :
    Moved s (s.putPump p x) := by
  refine ⟨?_, rfl, rfl⟩
  constructor <;> intros <;> try rfl
  rw [putPump_get]
  split <;> simp_all

theorem putGate_moved {s : State} {g : Fin 2} {x : Gate} (h : x.config = s.gates[g].config) :
    Moved s (s.putGate g x) := by
  refine ⟨?_, rfl, rfl⟩
  constructor <;> intros <;> try rfl
  rw [putGate_get]
  split <;> simp_all

theorem putLamp_moved {s : State} {c : Fin 8} {x : Lamp} (h : x.config = s.lamps[c].config) :
    Moved s (s.putLamp c x) := by
  refine ⟨?_, rfl, rfl⟩
  constructor <;> intros <;> try rfl
  rw [putLamp_get]
  split <;> simp_all

theorem mapLamps_moved {s : State} {f : Fin 8 → Lamp → Lamp} (h : ∀ c l, (f c l).config = l.config) :
    Moved s (s.mapLamps f) := by
  refine ⟨?_, rfl, rfl⟩
  constructor <;> intros <;> try rfl
  rw [mapLamps_get, h]

theorem mapPumps_moved {s : State} {f : Pump → Pump} (h : ∀ p, (f p).config = p.config) :
    Moved s (s.mapPumps f) := by
  refine ⟨?_, rfl, rfl⟩
  constructor <;> intros <;> try rfl
  rw [mapPumps_get, h]

theorem moveOutput_config (now output : Nat) (l : Lamp) : (moveOutput now output l).config = l.config := by
  unfold moveOutput
  split <;> rfl

/-! ## Lamps and load -/

theorem retargetWhere_moved (test : LampConfig → Bool) (s : State) : Moved s (retargetWhere test s) := by
  refine mapLamps_moved fun c l => ?_
  split <;> rfl

theorem forceLamps_moved (g : Fin 2) (forces : Bool) (channels : Byte) (s : State) :
    Moved s (forceLamps g forces channels s) := by
  refine mapLamps_moved fun c l => ?_
  dsimp only
  split
  · rfl
  · rw [moveOutput_config]

theorem setStage_moved (stage : Nat) (s : State) : Moved s (setStage stage s) := by
  unfold setStage
  refine Moved.trans (t := { s with allocator := { s.allocator with stage := stage } }) ?_
    (mapLamps_moved fun c l => ?_)
  · exact ⟨by constructor <;> intros <;> rfl, rfl, rfl⟩
  · dsimp only
    split
    · rfl
    · split
      · rw [moveOutput_config]
      · rfl

theorem restartRelease_moved (s : State) : Moved s (restartRelease s) := by
  exact ⟨by constructor <;> intros <;> rfl, rfl, rfl⟩

theorem raiseStage_moved (stage : Nat) (s : State) : Moved s (raiseStage stage s) :=
  (setStage_moved stage s).trans (restartRelease_moved _)

theorem grantStart_moved {load : Nat} {s t : State} (h : grantStart load s = some t) : Moved s t := by
  unfold grantStart at h
  split at h
  · cases h; exact .refl s
  · split at h
    · cases h; exact raiseStage_moved 1 s
    · split at h
      · cases h; exact raiseStage_moved 2 s
      · cases h

theorem tellShed_moved (before : Nat) (cause : ShedCause) (s : State) : Moved s (tellShed before cause s) :=
  ite_moved (.refl s) (raise_moved ..)

theorem releaseStage_moved (s : State) : Moved s (releaseStage s) := by
  unfold releaseStage
  refine Moved.trans ?_ (tellShed_moved ..)
  refine (setStage_moved (s.allocator.stage - 1) s).trans ?_
  exact ⟨by constructor <;> intros <;> rfl, rfl, rfl⟩

/-! ## Pumps -/

theorem changePump_moved (p : Fin 4) (state : PumpState) (cause : PumpCause) (s : State) :
    Moved s (changePump p state cause s) :=
  (putPump_moved (x := s.pumps[p].enter state cause s.now) rfl).trans (raise_moved ..)

theorem evaluateDry_moved (s : State) : Moved s (evaluateDry s) := by
  unfold evaluateDry
  split
  · refine foldl_moved _ (fun t p => ?_) four s
    unfold dryStop
    split
    · exact changePump_moved ..
    · exact .refl t
  · exact .refl s

theorem reclaim_moved (n : Nat) (s : State) : Moved s (reclaim n s) := by
  induction n generalizing s with
  | zero => exact .refl s
  | succ n ih =>
    unfold reclaim
    split
    · split
      · exact .refl s
      · exact (changePump_moved ..).trans (ih _)
    · exact .refl s

theorem stopSurplus_moved (n : Nat) (s : State) : Moved s (stopSurplus n s) := by
  induction n generalizing s with
  | zero => exact .refl s
  | succ n ih =>
    unfold stopSurplus
    split
    · split
      · exact .refl s
      · exact (changePump_moved ..).trans (ih _)
    · exact .refl s

theorem enterStarting_moved (p : Fin 4) (s : State) : Moved s (enterStarting p s) := by
  have last : ∀ (t : State) (n : Nat), Moved t { t with group := { t.group with lastStart := n } } := by
    intro t n
    exact ⟨by constructor <;> intros <;> rfl, rfl, rfl⟩
  unfold enterStarting
  refine Moved.trans ?_ (last _ s.now)
  refine (changePump_moved p .starting .demand s).trans ?_
  exact putPump_moved rfl

theorem considerStart_moved (s : State) : Moved s (considerStart s).1 := by
  unfold considerStart
  dsimp only
  split
  · exact .refl s
  · split
    · exact .refl s
    · split
      · exact .refl s
      · split
        · exact .refl s
        · split
          · exact .refl s
          · split
            · exact .refl s
            · rename_i granted h
              exact (grantStart_moved h).trans ((enterStarting_moved ..).trans (tellShed_moved ..))

theorem setReason_moved (reason : Unmet) (s : State) : Moved s (setReason reason s) := by
  have marks : ∀ (t : State) (r : Unmet) (w : Bool),
      Moved t { t with group := { t.group with reason := r, waiting := w } } := by
    intro t r w
    exact ⟨by constructor <;> intros <;> rfl, rfl, rfl⟩
  have timer : ∀ (t : State) (x : Option Nat),
      Moved t { t with allocator := { t.allocator with releaseFrom := x } } := by
    intro t x
    exact ⟨by constructor <;> intros <;> rfl, rfl, rfl⟩
  have told : Moved s (if reason = s.group.reason then s
      else raise unmetSource [unmetCode reason, word s.group.demand, word s.activeCount] s) :=
    ite_moved (.refl s) (raise_moved ..)
  unfold setReason
  generalize (if reason = s.group.reason then s
    else raise unmetSource [unmetCode reason, word s.group.demand, word s.activeCount] s) = t at told ⊢
  dsimp only
  split
  · exact told.trans (marks ..)
  · split
    · exact (told.trans (marks t reason (decide (reason = .load)))).trans (timer _ none)
    · split
      · exact (told.trans (marks t reason (decide (reason = .load)))).trans (timer _ (some s.now))
      · exact told.trans (marks ..)

theorem decisionWork_moved (s : State) : Moved s (decisionWork s).1 := by
  unfold decisionWork
  split
  · exact .refl s
  · dsimp only
    split
    · exact (reclaim_moved 4 s).trans (considerStart_moved _)
    · exact (reclaim_moved 4 s).trans (stopSurplus_moved 4 _)

theorem groupDecision_moved (s : State) : Moved s (groupDecision s) :=
  (decisionWork_moved s).trans (setReason_moved ..)

theorem pumpDemandNotice_moved (demand : Nat) (s : State) : Moved s (pumpDemandNotice demand s) := by
  refine Moved.trans ?_ (groupDecision_moved _)
  exact ⟨by constructor <;> intros <;> rfl, rfl, rfl⟩

theorem sumpNotice_moved (s : State) : Moved s (sumpNotice s) :=
  (evaluateDry_moved s).trans (groupDecision_moved _)

theorem feedbackChange_moved (p : Fin 4) (s : State) : Moved s (feedbackChange p s) := by
  unfold feedbackChange
  dsimp only
  split
  · refine ite_moved (Moved.trans (putPump_moved ?_) (changePump_moved ..)) (.refl s)
    rfl
  · exact ite_moved (.refl s) (changePump_moved ..)
  · exact ite_moved (.refl s) (changePump_moved ..)
  all_goals exact .refl s

theorem faultChange_moved (p : Fin 4) (s : State) : Moved s (faultChange p s) := by
  unfold faultChange
  dsimp only
  split
  all_goals first | exact .refl s | exact ite_moved (changePump_moved ..) (.refl s)

theorem pumpInputChange_moved (i : Fin 16) (s : State) (p : Fin 4) : Moved s (pumpInputChange i s p) := by
  unfold pumpInputChange
  exact ite_moved (feedbackChange_moved ..) (ite_moved (faultChange_moved ..) (.refl s))

theorem pumpInputNotice_moved (i : Fin 16) (s : State) : Moved s (pumpInputNotice i s) :=
  (foldl_moved _ (pumpInputChange_moved i) four s).trans (groupDecision_moved _)

theorem stopForLoad_moved (n : Nat) (s : State) : Moved s (stopForLoad n s) := by
  induction n generalizing s with
  | zero => exact .refl s
  | succ n ih =>
    unfold stopForLoad
    split
    · split
      · exact .refl s
      · exact (changePump_moved ..).trans (ih _)
    · exact .refl s

theorem deficit_moved (s : State) : Moved s (deficit s) := by
  unfold deficit
  dsimp only
  refine ite_moved ?_ (.refl s)
  have first : Moved s (if s.allocator.stage = 0 then setStage 1 s else s) :=
    ite_moved (setStage_moved ..) (.refl s)
  exact (first.trans (ite_moved (setStage_moved ..) (.refl _))).trans
    ((stopForLoad_moved 4 _).trans ((restartRelease_moved _).trans (tellShed_moved ..)))

theorem takeMode_moved (s : State) : Moved s (takeMode s) := ⟨by constructor <;> intros <;> rfl, rfl, rfl⟩

theorem tellSupply_moved (before : SupplyMode) (s : State) : Moved s (tellSupply before s) :=
  ite_moved (.refl s) (raise_moved ..)

theorem retakeSupply_moved (s : State) : Moved s (retakeSupply s) := by
  have told : Moved s (tellSupply s.allocator.mode (deficit (takeMode s))) :=
    (takeMode_moved s).trans ((deficit_moved _).trans (tellSupply_moved ..))
  unfold retakeSupply
  exact ite_moved (told.trans (groupDecision_moved _)) told

theorem supplyNotice_moved (s : State) : Moved s (supplyNotice s) :=
  ite_moved (.refl s) (retakeSupply_moved s)

theorem gainRunSecond_config (p : Pump) : (gainRunSecond p).config = p.config := by
  unfold gainRunSecond
  split <;> rfl

theorem pumpTick_moved (s : State) : Moved s (pumpTick s) := by
  refine Moved.trans (mapPumps_moved fun p => ?_) (groupDecision_moved _)
  exact gainRunSecond_config p

/-! ## Gates and the lamp check -/

theorem changeGate_moved (g : Fin 2) (state : GateState) (detail : GateDetail) (s : State) :
    Moved s (changeGate g state detail s) := by
  unfold changeGate
  dsimp only
  refine Moved.trans ?_ (raise_moved ..)
  refine Moved.trans (putGate_moved ?_) (forceLamps_moved ..)
  rfl

theorem setRetry_moved (g : Fin 2) (retry : Nat) (s : State) : Moved s (setRetry g retry s) :=
  putGate_moved rfl

theorem setHeld_moved (g : Fin 2) (held : Bool) (s : State) : Moved s (setHeld g held s) :=
  putGate_moved rfl

theorem passOpening_moved (g : Fin 2) (detail : GateDetail) (s : State) :
    Moved s (passOpening g detail s) := by
  unfold passOpening
  dsimp only
  refine (changeGate_moved g .opening detail s).trans (ite_moved ?_ (.refl _))
  exact (setRetry_moved ..).trans (changeGate_moved ..)

theorem standClosed_moved (g : Fin 2) (detail : GateDetail) (s : State) : Moved s (standClosed g detail s) :=
  ite_moved (ite_moved (passOpening_moved ..) (setHeld_moved ..)) (setHeld_moved ..)

theorem reachClosed_moved (g : Fin 2) (s : State) : Moved s (reachClosed g s) :=
  ((setRetry_moved ..).trans (changeGate_moved ..)).trans (standClosed_moved ..)

theorem enterClosing_moved (g : Fin 2) (s : State) : Moved s (enterClosing g s) := by
  unfold enterClosing
  dsimp only
  exact (changeGate_moved g .closing .leadEnd s).trans (ite_moved (reachClosed_moved ..) (.refl _))

theorem judgeWarning_moved (g : Fin 2) (s : State) : Moved s (judgeWarning g s) :=
  ite_moved (enterClosing_moved ..) (.refl s)

theorem enterWarning_moved (g : Fin 2) (detail : GateDetail) (s : State) :
    Moved s (enterWarning g detail s) :=
  (changeGate_moved ..).trans (judgeWarning_moved ..)

theorem standOpen_moved (g : Fin 2) (s : State) : Moved s (standOpen g s) :=
  ite_moved (enterWarning_moved ..) (.refl s)

theorem enterOpening_moved (g : Fin 2) (detail : GateDetail) (s : State) :
    Moved s (enterOpening g detail s) := by
  unfold enterOpening
  dsimp only
  exact (passOpening_moved g detail s).trans (ite_moved (standOpen_moved ..) (.refl _))

theorem reachOpen_moved (g : Fin 2) (s : State) : Moved s (reachOpen g s) :=
  ((setRetry_moved ..).trans (changeGate_moved ..)).trans (standOpen_moved ..)

theorem standing_moved (g : Fin 2) (detail : GateDetail) (s : State) : Moved s (standing g detail s) := by
  unfold standing
  split
  · exact standOpen_moved ..
  · exact standClosed_moved ..
  all_goals exact .refl s

theorem endReversal_moved (g : Fin 2) (s : State) : Moved s (endReversal g s) := by
  unfold endReversal
  dsimp only
  exact (setRetry_moved g _ s).trans (ite_moved (enterWarning_moved ..) (changeGate_moved ..))

theorem enterReversing_moved (g : Fin 2) (s : State) : Moved s (enterReversing g s) := by
  unfold enterReversing
  dsimp only
  exact (changeGate_moved g .reversing .obstruction s).trans
    (ite_moved (endReversal_moved ..) (.refl _))

theorem gateDemandNotice_moved (g : Fin 2) (demand : GateDemand) (fresh : Bool) (s : State) :
    Moved s (gateDemandNotice g demand fresh s) := by
  unfold gateDemandNotice
  dsimp only
  refine Moved.trans (putGate_moved (g := g)
    (x := { s.gates[g] with demand := demand, held := s.gates[g].held && !fresh }) rfl) ?_
  split
  · exact standOpen_moved ..
  · exact standClosed_moved ..
  · exact ite_moved (.refl _) (ite_moved (changeGate_moved ..) (changeGate_moved ..))
  · exact ite_moved (enterWarning_moved ..) (.refl _)
  · refine ite_moved ?_ (.refl _)
    refine (setRetry_moved g 0 _).trans ?_
    split
    · exact enterWarning_moved ..
    · exact ite_moved (enterOpening_moved ..) (setHeld_moved ..)
    · exact .refl _
  all_goals exact .refl _

theorem gateInputRule_moved (g : Fin 2) (i : Fin 16) (s : State) : Moved s (gateInputRule g i s) := by
  unfold gateInputRule
  dsimp only
  split
  · exact ite_moved (changeGate_moved ..) (.refl s)
  · exact ite_moved (changeGate_moved ..) (.refl s)
  · exact ite_moved (judgeWarning_moved ..) (.refl s)
  · exact ite_moved (reachClosed_moved ..) (ite_moved (enterReversing_moved ..) (.refl s))
  · exact ite_moved (reachOpen_moved ..) (.refl s)
  · exact ite_moved (endReversal_moved ..) (.refl s)
  all_goals exact .refl s

theorem gateInputNotice_moved (g : Fin 2) (i : Fin 16) (s : State) : Moved s (gateInputNotice g i s) := by
  unfold gateInputNotice
  dsimp only
  exact ite_moved (.refl s) (ite_moved (changeGate_moved ..) (gateInputRule_moved ..))

theorem gateLampNotice_moved (g : Fin 2) (entered : Bool) (s : State) :
    Moved s (gateLampNotice g entered s) := by
  unfold gateLampNotice
  dsimp only
  refine ite_moved (Moved.trans (putGate_moved (g := g)
    (x := { s.gates[g] with leadInForce := some s.gates[g].config.degraded }) rfl) ?_) (.refl s)
  exact ite_moved (judgeWarning_moved ..) (.refl _)

theorem tellLampFault_moved (c : Fin 8) (entered : Bool) (s : State) :
    Moved s (tellLampFault c entered s) := by
  unfold tellLampFault
  refine Moved.trans (foldl_moved _ (fun t g => ?_) two s) (raise_moved ..)
  split
  · exact gateLampNotice_moved ..
  · exact .refl t

theorem judgeCheck_moved (c : Fin 8) (verdict : Verdict) (s : State) : Moved s (judgeCheck c verdict s) := by
  unfold judgeCheck
  refine ite_moved ?_ (Moved.trans ?_ (tellLampFault_moved ..))
  · exact putLamp_moved rfl
  · exact putLamp_moved rfl

theorem currentCheck_moved (c : Fin 8) (current : Nat) (s : State) : Moved s (currentCheck c current s) := by
  unfold currentCheck
  dsimp only
  split
  · refine Moved.trans ?_ (judgeCheck_moved ..)
    exact putLamp_moved rfl
  · exact putLamp_moved rfl

theorem clearLampFault_moved (c : Fin 8) (s : State) : Moved s (clearLampFault c s) := by
  unfold clearLampFault
  dsimp only
  split
  · refine Moved.trans ?_ (tellLampFault_moved ..)
    exact putLamp_moved rfl
  · exact putLamp_moved rfl

/-! ## Demands and plans -/

theorem tellOwner_moved (fresh : Vector Bool 2) (s : State) : (o : Owner) → Moved s (tellOwner fresh s o)
  | .pumps => pumpDemandNotice_moved ..
  | .gate _ => gateDemandNotice_moved ..
  | .zone z => retargetWhere_moved (fun l => decide (l.zone = z)) s

/-- The owners of a piece of work, in whatever order they hear, move only what `Moved` lets them. -/
theorem tellOwners_moved (before : Demands) (fresh : Vector Bool 2) (planChanged : Bool) (s : State) :
    Moved s (tellOwners before fresh planChanged s) := by
  unfold tellOwners
  split
  · exact .refl s
  · exact tellOwner_moved ..
  · refine Moved.trans (t := { s with arbiter := s.arbiter + 1 }) ?_ (foldl_moved _ (tellOwner_moved fresh) _ _)
    exact ⟨by constructor <;> intros <;> rfl, rfl, rfl⟩

theorem runItem_untouched (e : Fin 64) (w : Work) (item : Item) : Untouched w.state (runItem e w item).state := by
  unfold runItem
  cases item
  case event => exact (raise_moved ..).toUntouched
  all_goals constructor <;> intros <;> rfl

theorem runEntry_untouched (e : Option (Fin 64)) (w : Work) : Untouched w.state (runEntry e w).state := by
  cases e with
  | none => exact .refl _
  | some e =>
    change Untouched w.state (List.foldl (runItem e) w (w.state.actions[e]).items).state
    generalize (w.state.actions[e]).items = items
    induction items generalizing w with
    | nil => exact .refl _
    | cons a l ih => exact (runItem_untouched e w a).trans (ih (runItem e w a))

theorem cascadeTracker_untouched (cause : PlanCause) (old : Fin 8) (w : Work) (t : Fin 4) :
    Untouched w.state (cascadeTracker cause old w t).state := by
  unfold cascadeTracker
  dsimp only
  have ran := runEntry_untouched (w.state.findEntry t w.state.trackers[t].effective .enter w.state.plan)
    { w with asked := none }
  split
  · exact ran
  · exact ran.trans (raise_moved ..).toUntouched

theorem cascade_untouched (cause : PlanCause) (plan : Fin 8) (w : Work) :
    Untouched w.state (cascade cause plan w).state := by
  have folded : ∀ (l : List (Fin 4)) (v : Work),
      Untouched v.state (l.foldl (cascadeTracker cause w.state.plan) v).state := by
    intro l
    induction l with
    | nil => exact fun v => .refl _
    | cons a l ih => exact fun v => (cascadeTracker_untouched ..).trans (ih _)
  unfold cascade
  refine Untouched.trans ?_ (folded four _)
  refine Untouched.trans (t := { w.state with plan := plan }) ?_ (raise_moved ..).toUntouched
  constructor <;> intros <;> rfl

theorem endWork_untouched (before : State) (w : Work) : Untouched w.state (endWork before w) :=
  (tellOwners_moved ..).toUntouched

theorem bandWork_untouched (t : Fin 4) (old new : Band) (s : State) : Untouched s (bandWork t old new s).state := by
  unfold bandWork
  dsimp only
  have work : Untouched s (runEntry ((runEntry (s.findEntry t old .leave s.plan) (startWork s)).state.findEntry t new
      .enter s.plan) (runEntry (s.findEntry t old .leave s.plan) (startWork s))).state :=
    (runEntry_untouched (s.findEntry t old .leave s.plan) (startWork s)).trans (runEntry_untouched ..)
  split
  · exact work
  · split
    · exact work
    · exact work.trans (cascade_untouched ..)

theorem bandChange_untouched (t : Fin 4) (old new : Band) (s : State) : Untouched s (bandChange t old new s) :=
  (bandWork_untouched t old new s).trans (endWork_untouched ..)

theorem changePlan_untouched (cause : PlanCause) (plan : Fin 8) (s : State) :
    Untouched s (changePlan cause plan s) := by
  unfold changePlan
  split
  · exact .refl s
  · exact (cascade_untouched cause plan (startWork s)).trans (endWork_untouched ..)

theorem setDemands_untouched (d : Demands) (s : State) : Untouched s { s with demands := d } := by
  constructor <;> intros <;> rfl

theorem replaceDemands_untouched (d : Demands) (s : State) : Untouched s (replaceDemands d s) := by
  unfold replaceDemands
  exact (setDemands_untouched d s).trans ((tellOwners_moved ..).toUntouched)

theorem demandGate_untouched (g : Fin 2) (value : GateDemand) (hold : Nat) (s : State) :
    Untouched s (demandGate g value hold s) := by
  unfold demandGate
  dsimp only
  refine Untouched.trans ?_ ((tellOwners_moved ..).toUntouched)
  exact setDemands_untouched ..

/-! ## Notices -/

/-- A notice touches nothing of what `Untouched` names. -/
theorem deliver_untouched (s : State) (n : Notice) : Untouched s (deliver s n) := by
  cases n
  case band => exact bandChange_untouched ..
  case reopen => exact (standing_moved ..).toUntouched
  case sump => exact (sumpNotice_moved ..).toUntouched
  case pumpInput => exact (pumpInputNotice_moved ..).toUntouched
  case gateInput => exact (gateInputNotice_moved ..).toUntouched
  case supply => exact (supplyNotice_moved ..).toUntouched
  case isolation => exact changePlan_untouched ..
  case removal => exact replaceDemands_untouched (s.demands.map fun r => r.withSupervisory none) s
  case countdown => exact replaceDemands_untouched (s.demands.map fun r => r.countdown) s
  case pumpTick => exact (pumpTick_moved ..).toUntouched

theorem arbiter_untouched (n : Nat) (s : State) : Untouched s { s with arbiter := n } := by
  constructor <;> intros <;> rfl

/-- Notices in whatever order touch nothing of what `Untouched` names. -/
theorem deliverAll_untouched (ns : List Notice) (s : State) : Untouched s (deliverAll ns s) := by
  unfold deliverAll
  split
  · exact .refl s
  · exact deliver_untouched ..
  · unfold deliverIn
    exact (arbiter_untouched (s.arbiter + 1) s).trans (foldl_untouched deliver deliver_untouched _ _)

end Sys2Proof.Machine
end

