-- ==== Sys2Proof/Laws/Commands.lean ====
section
/-! SUPPORT. What the Command Unit makes of a command: turned away, cancelled, refused, or carried out with its reply. -/

namespace Sys2Proof.Machine

/-- The reply queue of a state replaced in both states keeps `Untouched`. -/
theorem Untouched.withReplies {s t : State} (h : Untouched s t) (r : ReplyQueue) :
    Untouched { s with replies := r } { t with replies := r } :=
  { h with replies := rfl }

/-- A command that is not taken sets queue-full seen and does nothing else (R18). -/
theorem offer_not_taken {name : Option CommandName} {h : CellHeader} {payload : List Word} {s : State}
    (full : s.canTake = false) :
    offer name h payload s = { s with unit := { s.unit with queueFullSeen := true } } := by
  simp [offer, full]

/-- A command taken after a refusal in its frame is cancelled (R19). -/
theorem offer_cancelled {name : Option CommandName} {h : CellHeader} {payload : List Word} {s : State}
    (room : s.canTake = true) (seen : s.unit.refusalSeen = true) :
    offer name h payload s = s.replied h .cancelled [] := by
  simp [offer, room, takeCommand, seen, completeLast, reserveReply, State.replied]

/-- A taken command is checked and carried out with its reply entry reserved (R18, R20). -/
theorem offer_checked {name : Option CommandName} {h : CellHeader} {payload : List Word} {s : State}
    (room : s.canTake = true) (clear : s.unit.refusalSeen = false) :
    offer name h payload s =
      answer (replyTo h) (reserveReply (replyTo h) s)
        (checkAndCarry name h payload (reserveReply (replyTo h) s)) := by
  simp [offer, room, takeCommand, clear]

/-- The refusal of a taken command (R19, R20). -/
theorem answer_refused (h : CellHeader) (s : State) (reason : Status) :
    answer (replyTo h) (reserveReply (replyTo h) s) (.refused reason) = s.refused h reason := by
  simp [answer, completeLast, reserveReply, State.refused, State.replied]

/-- The DONE reply of a command that left the Reply Queue as it found it (R23). -/
theorem answer_done (h : CellHeader) (s t : State) (data : List Word)
    (kept : t.replies = (reserveReply (replyTo h) s).replies) :
    answer (replyTo h) (reserveReply (replyTo h) s) (.done t data) =
      State.answered { t with replies := s.replies } h data := by
  simp [answer, completeLast, kept, reserveReply, State.answered, State.replied]

/-- The acceptance of a good frame is the one that Safety.lean spells out. -/
theorem beginAcceptance_framed (s : State) : beginAcceptance s = s.framed := rfl

/-- A command row with the loop UP is offered as a cell of the frame in hand (R18). -/
theorem offerRow_up {s : State} (up : s.loop.state = .up) (name : CommandName) (h : CellHeader) (payload : List Word) :
    offerRow name h payload s = .next (offer (some name) h payload s) := by
  simp [offerRow, up]

/-- A command row with the loop LOST is offered in the frame that brings the loop UP (R8, R96; log entry 4). -/
theorem offerRow_lost {s : State} (lost : s.loop.state = .lost) (name : CommandName) (h : CellHeader)
    (payload : List Word) : offerRow name h payload s = .next (offer (some name) h payload s.framed) := by
  rw [offerRow, if_pos lost, beginAcceptance_framed]

/-- An accepted command is carried out (R20). -/
theorem offer_accepted {name : CommandName} {h : CellHeader} {payload : List Word} {s : State} (a : Accepted h s)
    (privilege : needsMaintenance name payload = true → h.maintenance = true) :
    offer (some name) h payload s =
      answer (replyTo h) (reserveReply (replyTo h) s)
        (carryOut name (replyTo h) payload (reserveReply (replyTo h) s)) := by
  obtain ⟨-, room, clear, nonzero, key⟩ := a
  rw [offer_checked room clear]
  have held : h.maintenance = true → (reserveReply (replyTo h) s).maintenanceKey = true := key
  have first : ¬(h.maintenance = true ∧ (reserveReply (replyTo h) s).maintenanceKey = false) := by
    rintro ⟨m, k⟩
    rw [held m] at k
    cases k
  have second : ¬(needsMaintenance name payload = true ∧ h.maintenance = false) := by
    rintro ⟨n, m⟩
    rw [privilege n] at m
    cases m
  simp only [checkAndCarry, if_neg nonzero, if_neg first, if_neg second]

/-- An accepted command that is carried out leaves the state it makes, with its DONE reply. -/
theorem offer_done {name : CommandName} {h : CellHeader} {payload : List Word} {s t : State} {data : List Word}
    (a : Accepted h s) (privilege : needsMaintenance name payload = true → h.maintenance = true)
    (carried : carryOut name (replyTo h) payload (reserveReply (replyTo h) s) = .done t data)
    (kept : t.replies = (reserveReply (replyTo h) s).replies) :
    offer (some name) h payload s = State.answered { t with replies := s.replies } h data := by
  rw [offer_accepted a privilege, carried, answer_done h s t data kept]

/-- An accepted command that its own checks refuse changes nothing but the reply and refusal seen. -/
theorem offer_refused {name : CommandName} {h : CellHeader} {payload : List Word} {s : State} {reason : Status}
    (a : Accepted h s) (privilege : needsMaintenance name payload = true → h.maintenance = true)
    (carried : carryOut name (replyTo h) payload (reserveReply (replyTo h) s) = .refused reason) :
    offer (some name) h payload s = s.refused h reason := by
  rw [offer_accepted a privilege, carried, answer_refused]

/-- A reserved reply changes nothing that a notice could move. -/
theorem reserveReply_replies (reply : ReplyTo) (s : State) :
    (reserveReply reply s).replies =
      { reserved := s.replies.reserved ++ [reply], completed := s.replies.completed } := rfl

/-! ## Operand words that are in range -/

theorem word_toNat (n : Nat) (small : n < 65536) : (word n).toNat = n := by
  simp [word, Nat.mod_eq_of_lt small]

/-- The word of a member's number reads as that member. -/
theorem readFin_word {n : Nat} (i : Fin n) (small : n ≤ 65536) : readFin n (word i.val) = some i := by
  have h : (word i.val).toNat = i.val := word_toNat _ (Nat.lt_of_lt_of_le i.isLt small)
  simp [readFin, h]

end Sys2Proof.Machine
end

