-- ==== Sys2Proof/Laws/Trackers.lean ====
section
/-! SUPPORT. What one tracker event can do: its own record changes, its events are raised, and the rest is what its
notices move. -/

namespace Sys2Proof.Machine

/-- Two states that differ at most in the event records. -/
structure Told (s t : State) : Prop extends Moved s t where
  pumps : t.pumps = s.pumps
  group : t.group = s.group
  gates : t.gates = s.gates
  lamps : t.lamps = s.lamps
  allocator : t.allocator = s.allocator

theorem Told.refl (s : State) : Told s s := ⟨.refl s, rfl, rfl, rfl, rfl, rfl⟩

theorem Told.trans {s t u : State} (a : Told s t) (b : Told t u) : Told s u :=
  ⟨a.toMoved.trans b.toMoved, b.pumps.trans a.pumps, b.group.trans a.group, b.gates.trans a.gates,
    b.lamps.trans a.lamps, b.allocator.trans a.allocator⟩

/-- Raising an event changes the event records alone. -/
theorem raise_told (n : Fin 22) (detail : List Word) (s : State) : Told s (raise n detail s) := by
  refine ⟨raise_moved n detail s, ?_, ?_, ?_, ?_, ?_⟩ <;> (unfold raise; split <;> rfl)

theorem ite_told {c : Prop} [Decidable c] {s t u : State} (a : Told s t) (b : Told s u) :
    Told s (if c then t else u) := by split <;> assumption

/-- A tracker event stores the new record, raises events, and changes nothing else before its notices (R73, R76). -/
theorem updateTracker_told (t : Fin 4) (f : Sources → Tracker → Tracker) (s : State) :
    Told (s.putTracker t (s.finishTracker (f (s.sourcesOf t) s.trackers[t]))) (updateTracker t f s).1 := by
  unfold updateTracker
  dsimp only
  have stepTold : ∀ (c : Prop) [Decidable c] (n : Fin 22) (d : List Word) (u : State),
      Told u (if c then u else raise n d u) := fun c _ n d u => ite_told (.refl u) (raise_told n d u)
  exact (stepTold _ _ _ _).trans ((stepTold _ _ _ _).trans (stepTold _ _ _ _))

/-- One tracker event, notices included, changes nothing that `Untouched` names but the tracker's own record. -/
theorem trackerEvent_untouched (t : Fin 4) (f : Sources → Tracker → Tracker) (s : State) :
    Untouched (s.putTracker t (s.finishTracker (f (s.sourcesOf t) s.trackers[t]))) (trackerEvent t f s) :=
  (updateTracker_told t f s).toUntouched.trans (deliverAll_untouched _ _)

/-- The last sample of a source depends on the analog inputs and the slots alone. -/
theorem lastSample_congr {s u : State} (analog : u.analog = s.analog) (slots : u.slots = s.slots)
    (source : Option Source) : u.lastSample source = s.lastSample source := by
  cases source with
  | none => rfl
  | some x => cases x <;> simp only [State.lastSample, analog, slots]

/-- Trackers that each do their own work in one event: every tracker named does it once from the record and the sources
it had, the others keep theirs (R90). -/
theorem updateTrackers_trackers (f : Fin 4 → Sources → Tracker → Tracker) (ts : List (Fin 4)) (nodup : ts.Nodup)
    (s : State) (acc : List Notice) (i : Fin 4) :
    (ts.foldl (fun a t => let r := updateTracker t (f t) a.1; (r.1, a.2 ++ r.2)) (s, acc)).1.trackers[i] =
      if i ∈ ts then s.finishTracker (f i (s.sourcesOf i) s.trackers[i]) else s.trackers[i] := by
  induction ts generalizing s acc with
  | nil => simp
  | cons t ts ih =>
    have told := updateTracker_told t (f t) s
    obtain ⟨fresh, nodup⟩ := List.nodup_cons.mp nodup
    have got : ∀ j : Fin 4, (updateTracker t (f t) s).1.trackers[j] =
        if t = j then s.finishTracker (f t (s.sourcesOf t) s.trackers[t]) else s.trackers[j] := by
      intro j
      rw [told.trackers]
      exact putTracker_get ..
    have rest := ih nodup (updateTracker t (f t) s).1 (acc ++ (updateTracker t (f t) s).2)
    simp only [List.foldl_cons, List.mem_cons]
    rw [rest]
    by_cases same : i = t
    · subst same
      rw [if_neg fresh, if_pos (Or.inl rfl), got i, if_pos rfl]
    · have other : t ≠ i := fun h => same h.symm
      have tracker := got i
      rw [if_neg other] at tracker
      have sources : (updateTracker t (f t) s).1.sourcesOf i = s.sourcesOf i := by
        have a : (updateTracker t (f t) s).1.analog = s.analog := told.analog
        have b : (updateTracker t (f t) s).1.slots = s.slots := told.slots
        have c : (updateTracker t (f t) s).1.now = s.now := by
          simp only [State.now, told.time, putTracker_time]
        simp only [State.sourcesOf, tracker, lastSample_congr a b, c]
      have finish : ∀ x, (updateTracker t (f t) s).1.finishTracker x = s.finishTracker x := by
        intro x
        have d : (updateTracker t (f t) s).1.digital = s.digital := told.digital
        cases hx : x.hold.floatInput <;> simp only [State.finishTracker, State.inputActive, State.filtered, d, hx]
      simp only [tracker, sources, finish, same, false_or]

end Sys2Proof.Machine
end

