-- ==== Sys2Proof/Laws/Equipment.lean ====
section
/-! SUPPORT. What the work of one gate and of the pump group can change. -/

namespace Sys2Proof.Machine

/-! ## One gate -/

/-- Two states that differ at most in gate g, the lamp channels it forces, and the event records. -/
structure AtGate (g : Fin 2) (s t : State) : Prop extends Moved s t where
  pumps : t.pumps = s.pumps
  group : t.group = s.group
  allocator : t.allocator = s.allocator
  others : ∀ k : Fin 2, k ≠ g → t.gates[k] = s.gates[k]

theorem AtGate.refl {g : Fin 2} (s : State) : AtGate g s s := ⟨.refl s, rfl, rfl, rfl, fun _ _ => rfl⟩

theorem AtGate.trans {g : Fin 2} {s t u : State} (a : AtGate g s t) (b : AtGate g t u) : AtGate g s u :=
  ⟨a.toMoved.trans b.toMoved, b.pumps.trans a.pumps, b.group.trans a.group, b.allocator.trans a.allocator,
    fun k h => (b.others k h).trans (a.others k h)⟩

theorem AtGate.ofTold {g : Fin 2} {s t : State} (a : Told s t) : AtGate g s t :=
  ⟨a.toMoved, a.pumps, a.group, a.allocator, fun _ _ => by rw [a.gates]⟩

theorem ite_atGate {g : Fin 2} {c : Prop} [Decidable c] {s t u : State} (a : AtGate g s t) (b : AtGate g s u) :
    AtGate g s (if c then t else u) := by split <;> assumption

theorem putGate_atGate {s : State} {g : Fin 2} {x : Gate} (h : x.config = s.gates[g].config) :
    AtGate g s (s.putGate g x) := by
  refine ⟨putGate_moved h, rfl, rfl, rfl, fun k other => ?_⟩
  rw [putGate_get, if_neg fun e => other e.symm]

theorem changeGate_atGate (g : Fin 2) (state : GateState) (detail : GateDetail) (s : State) :
    AtGate g s (changeGate g state detail s) := by
  unfold changeGate
  dsimp only
  refine AtGate.trans ?_ (.ofTold (raise_told ..))
  refine AtGate.trans (putGate_atGate (g := g) (x := s.gates[g].enter state detail s.now (s.leadAtEntry s.gates[g].config)) rfl) ?_
  exact ⟨forceLamps_moved .., rfl, rfl, rfl, fun _ _ => rfl⟩

theorem setRetry_atGate (g : Fin 2) (retry : Nat) (s : State) : AtGate g s (setRetry g retry s) :=
  putGate_atGate rfl

theorem setHeld_atGate (g : Fin 2) (held : Bool) (s : State) : AtGate g s (setHeld g held s) :=
  putGate_atGate rfl

theorem passOpening_atGate (g : Fin 2) (detail : GateDetail) (s : State) :
    AtGate g s (passOpening g detail s) := by
  unfold passOpening
  dsimp only
  refine (changeGate_atGate g .opening detail s).trans (ite_atGate ?_ (.refl _))
  exact (setRetry_atGate ..).trans (changeGate_atGate ..)

theorem standClosed_atGate (g : Fin 2) (detail : GateDetail) (s : State) : AtGate g s (standClosed g detail s) :=
  ite_atGate (ite_atGate (passOpening_atGate ..) (setHeld_atGate ..)) (setHeld_atGate ..)

theorem reachClosed_atGate (g : Fin 2) (s : State) : AtGate g s (reachClosed g s) :=
  ((setRetry_atGate ..).trans (changeGate_atGate ..)).trans (standClosed_atGate ..)

theorem enterClosing_atGate (g : Fin 2) (s : State) : AtGate g s (enterClosing g s) := by
  unfold enterClosing
  dsimp only
  exact (changeGate_atGate g .closing .leadEnd s).trans (ite_atGate (reachClosed_atGate ..) (.refl _))

theorem judgeWarning_atGate (g : Fin 2) (s : State) : AtGate g s (judgeWarning g s) :=
  ite_atGate (enterClosing_atGate ..) (.refl s)

theorem enterWarning_atGate (g : Fin 2) (detail : GateDetail) (s : State) :
    AtGate g s (enterWarning g detail s) :=
  (changeGate_atGate ..).trans (judgeWarning_atGate ..)

theorem standOpen_atGate (g : Fin 2) (s : State) : AtGate g s (standOpen g s) :=
  ite_atGate (enterWarning_atGate ..) (.refl s)

theorem enterOpening_atGate (g : Fin 2) (detail : GateDetail) (s : State) :
    AtGate g s (enterOpening g detail s) := by
  unfold enterOpening
  dsimp only
  exact (passOpening_atGate g detail s).trans (ite_atGate (standOpen_atGate ..) (.refl _))

theorem reachOpen_atGate (g : Fin 2) (s : State) : AtGate g s (reachOpen g s) :=
  ((setRetry_atGate ..).trans (changeGate_atGate ..)).trans (standOpen_atGate ..)

theorem standing_atGate (g : Fin 2) (detail : GateDetail) (s : State) : AtGate g s (standing g detail s) := by
  unfold standing
  split
  · exact standOpen_atGate ..
  · exact standClosed_atGate ..
  all_goals exact .refl s

theorem endReversal_atGate (g : Fin 2) (s : State) : AtGate g s (endReversal g s) := by
  unfold endReversal
  dsimp only
  exact (setRetry_atGate g _ s).trans (ite_atGate (enterWarning_atGate ..) (changeGate_atGate ..))

theorem enterReversing_atGate (g : Fin 2) (s : State) : AtGate g s (enterReversing g s) := by
  unfold enterReversing
  dsimp only
  exact (changeGate_atGate g .reversing .obstruction s).trans
    (ite_atGate (endReversal_atGate ..) (.refl _))

theorem gateDemandNotice_atGate (g : Fin 2) (demand : GateDemand) (fresh : Bool) (s : State) :
    AtGate g s (gateDemandNotice g demand fresh s) := by
  unfold gateDemandNotice
  dsimp only
  refine AtGate.trans (putGate_atGate (g := g)
    (x := { s.gates[g] with demand := demand, held := s.gates[g].held && !fresh }) rfl) ?_
  split
  · exact standOpen_atGate ..
  · exact standClosed_atGate ..
  · exact ite_atGate (.refl _) (ite_atGate (changeGate_atGate ..) (changeGate_atGate ..))
  · exact ite_atGate (enterWarning_atGate ..) (.refl _)
  · refine ite_atGate ?_ (.refl _)
    refine (setRetry_atGate g 0 _).trans ?_
    split
    · exact enterWarning_atGate ..
    · exact ite_atGate (enterOpening_atGate ..) (setHeld_atGate ..)
    · exact .refl _
  all_goals exact .refl _

theorem gateInputRule_atGate (g : Fin 2) (i : Fin 16) (s : State) : AtGate g s (gateInputRule g i s) := by
  unfold gateInputRule
  dsimp only
  split
  · exact ite_atGate (changeGate_atGate ..) (.refl s)
  · exact ite_atGate (changeGate_atGate ..) (.refl s)
  · exact ite_atGate (judgeWarning_atGate ..) (.refl s)
  · exact ite_atGate (reachClosed_atGate ..) (ite_atGate (enterReversing_atGate ..) (.refl s))
  · exact ite_atGate (reachOpen_atGate ..) (.refl s)
  · exact ite_atGate (endReversal_atGate ..) (.refl s)
  all_goals exact .refl s

theorem gateInputNotice_atGate (g : Fin 2) (i : Fin 16) (s : State) : AtGate g s (gateInputNotice g i s) := by
  unfold gateInputNotice
  dsimp only
  exact ite_atGate (.refl s) (ite_atGate (changeGate_atGate ..) (gateInputRule_atGate ..))

theorem gateLampNotice_atGate (g : Fin 2) (entered : Bool) (s : State) :
    AtGate g s (gateLampNotice g entered s) := by
  unfold gateLampNotice
  dsimp only
  refine ite_atGate (AtGate.trans (putGate_atGate (g := g)
    (x := { s.gates[g] with leadInForce := some s.gates[g].config.degraded }) rfl) ?_) (.refl s)
  exact ite_atGate (judgeWarning_atGate ..) (.refl _)

/-- A change of a gate's state replaces the gate's record by the new one, entered with the lead that its lamps give (R130,
R141). -/
theorem changeGate_gates (g : Fin 2) (state : GateState) (detail : GateDetail) (s : State) :
    (changeGate g state detail s).gates =
      s.gates.set g (s.gates[g].enter state detail s.now (s.leadAtEntry s.gates[g].config)) := by
  unfold changeGate
  dsimp only
  rw [(raise_told ..).gates]
  rfl

/-- The gate itself after its change of state. -/
theorem changeGate_self (g : Fin 2) (state : GateState) (detail : GateDetail) (s : State) :
    (changeGate g state detail s).gates[g] =
      s.gates[g].enter state detail s.now (s.leadAtEntry s.gates[g].config) := by
  rw [changeGate_gates]
  simp

/-! ## The pumps -/

/-- A change of a pump's state replaces the pump's record (R113). -/
theorem changePump_pumps (p : Fin 4) (state : PumpState) (cause : PumpCause) (s : State) :
    (changePump p state cause s).pumps = s.pumps.set p (s.pumps[p].enter state cause s.now) := by
  unfold changePump
  rw [(raise_told ..).pumps]
  rfl

/-- What a group decision can do to one pump: leave it, start it, reclaim it or stop it (R115). -/
inductive Decided (a b : Pump) : Prop where
  | same (h : b = a)
  | started (was : a.state = .idle) (now : b.state = .starting) (cause : b.cause = some .demand)
  | moved (was : a.state = .running ∨ a.state = .runOn) (now : b.state = .running ∨ b.state = .runOn ∨ b.state = .idle ∨
      b.state = .starting) (cause : b.cause = some .demand)

theorem Decided.trans {a b c : Pump} (x : Decided a b) (y : Decided b c) : Decided a c := by
  cases x with
  | same h => rw [← h]; exact y
  | started was now cause =>
    cases y with
    | same h => rw [h]; exact .started was now cause
    | started was' => rw [now] at was'; cases was'
    | moved was' => rw [now] at was'; rcases was' with h | h <;> cases h
  | moved was now cause =>
    cases y with
    | same h => rw [h]; exact .moved was now cause
    | started _ now' cause' => exact .moved was (.inr (.inr (.inr now'))) cause'
    | moved _ now' cause' => exact .moved was now' cause'

/-- Two states that differ at most in what a group decision does: pumps started, reclaimed or stopped, the group's own
record, the lighting shed for a start, the release timer and the event records. -/
structure AtPumps (s t : State) : Prop extends Moved s t where
  gates : t.gates = s.gates
  decided : ∀ p : Fin 4, Decided s.pumps[p] t.pumps[p]

theorem AtPumps.refl (s : State) : AtPumps s s := ⟨.refl s, rfl, fun _ => .same rfl⟩

theorem AtPumps.trans {s t u : State} (a : AtPumps s t) (b : AtPumps t u) : AtPumps s u :=
  ⟨a.toMoved.trans b.toMoved, b.gates.trans a.gates, fun p => (a.decided p).trans (b.decided p)⟩

/-- A move that changes no pump's record and no gate. -/
theorem AtPumps.ofSame {s t : State} (m : Moved s t) (gates : t.gates = s.gates) (pumps : t.pumps = s.pumps) :
    AtPumps s t := ⟨m, gates, fun p => .same (by rw [pumps])⟩

theorem changePump_gates (p : Fin 4) (state : PumpState) (cause : PumpCause) (s : State) :
    (changePump p state cause s).gates = s.gates := by
  unfold changePump
  rw [(raise_told ..).gates]
  rfl

theorem changePump_get (p q : Fin 4) (state : PumpState) (cause : PumpCause) (s : State) :
    (changePump p state cause s).pumps[q] = if p = q then s.pumps[p].enter state cause s.now else s.pumps[q] := by
  rw [changePump_pumps]
  exact vector_set_get ..

/-- A running pump moved on by a decision. -/
theorem changePump_atPumps {p : Fin 4} {state : PumpState} {s : State}
    (was : s.pumps[p].state = .running ∨ s.pumps[p].state = .runOn)
    (now : state = .running ∨ state = .runOn ∨ state = .idle) : AtPumps s (changePump p state .demand s) := by
  refine ⟨changePump_moved .., changePump_gates .., fun q => ?_⟩
  rw [changePump_get]
  split
  · rename_i same
    subst same
    refine .moved was ?_ rfl
    rcases now with h | h | h <;> simp [Pump.enter, h]
  · exact .same rfl

theorem least_mem {α : Type} {key : α → Nat} {l : List α} {a : α} (h : least key l = some a) : a ∈ l := by
  induction l generalizing a with
  | nil => cases h
  | cons x xs ih =>
    unfold least at h
    split at h
    · cases h; exact List.mem_cons_self ..
    · rename_i q found
      split at h <;> cases h
      · exact List.mem_cons_of_mem _ (ih found)
      · exact List.mem_cons_self ..

theorem most_mem {α : Type} {key : α → Nat} {l : List α} {a : α} (h : most key l = some a) : a ∈ l := by
  induction l generalizing a with
  | nil => cases h
  | cons x xs ih =>
    unfold most at h
    split at h
    · cases h; exact List.mem_cons_self ..
    · rename_i q found
      split at h <;> cases h
      · exact List.mem_cons_of_mem _ (ih found)
      · exact List.mem_cons_self ..

/-- A pump chosen among those that satisfy a test satisfies it. -/
theorem mem_pumpsWhere {s : State} {test : Pump → Bool} {p : Fin 4} (h : p ∈ s.pumpsWhere test) :
    test s.pumps[p] = true := (List.mem_filter.mp h).2

theorem reclaim_atPumps (n : Nat) (s : State) : AtPumps s (reclaim n s) := by
  induction n generalizing s with
  | zero => exact .refl s
  | succ n ih =>
    unfold reclaim
    split
    · split
      · exact .refl s
      · rename_i p found
        have runOn := of_decide_eq_true (mem_pumpsWhere (least_mem found))
        exact (changePump_atPumps (.inr runOn) (.inl rfl)).trans (ih _)
    · exact .refl s

theorem stopSurplus_atPumps (n : Nat) (s : State) : AtPumps s (stopSurplus n s) := by
  induction n generalizing s with
  | zero => exact .refl s
  | succ n ih =>
    unfold stopSurplus
    split
    · split
      · exact .refl s
      · rename_i p found
        have eligible := mem_pumpsWhere (most_mem found)
        have running := of_decide_eq_true (Bool.and_eq_true_iff.mp eligible).1
        refine (changePump_atPumps (.inl running) ?_).trans (ih _)
        split
        · exact .inr (.inr rfl)
        · exact .inr (.inl rfl)
    · exact .refl s

theorem setStage_atPumps (stage : Nat) (s : State) : AtPumps s (setStage stage s) :=
  .ofSame (setStage_moved ..) rfl rfl

theorem grantStart_atPumps {load : Nat} {s t : State} (h : grantStart load s = some t) : AtPumps s t := by
  have raised : ∀ n, AtPumps s (raiseStage n s) := fun n => .ofSame (raiseStage_moved ..) rfl rfl
  unfold grantStart at h
  split at h
  · cases h; exact .refl s
  · split at h
    · cases h; exact raised 1
    · split at h
      · cases h; exact raised 2
      · cases h

theorem tellShed_atPumps (before : Nat) (cause : ShedCause) (s : State) : AtPumps s (tellShed before cause s) := by
  have told : Told s (tellShed before cause s) := by
    unfold tellShed
    exact ite_told (.refl s) (raise_told ..)
  exact .ofSame told.toMoved told.gates told.pumps

theorem enterStarting_atPumps {p : Fin 4} {s : State} (was : s.pumps[p].state = .idle) :
    AtPumps s (enterStarting p s) := by
  refine ⟨enterStarting_moved .., ?_, fun q => ?_⟩
  · unfold enterStarting
    exact changePump_gates p .starting .demand s
  · unfold enterStarting
    dsimp only
    rw [putPump_get]
    split
    · rename_i same
      subst same
      refine .started was ?_ ?_ <;> (rw [changePump_get, if_pos rfl]; rfl)
    · rename_i other
      rw [changePump_get, if_neg other]
      exact .same rfl

theorem considerStart_atPumps (s : State) : AtPumps s (considerStart s).1 := by
  unfold considerStart
  dsimp only
  split
  · exact .refl s
  split
  · exact .refl s
  split
  · exact .refl s
  split
  · exact .refl s
  split
  · exact .refl s
  rename_i p found
  split
  · exact .refl s
  rename_i granted h
  have candidate := (List.mem_filter.mp (List.mem_filter.mp (least_mem found)).1).1
  have idle : s.pumps[p].state = .idle :=
    of_decide_eq_true (Bool.and_eq_true_iff.mp (mem_pumpsWhere candidate)).1
  have same : granted.pumps[p] = s.pumps[p] := by
    unfold grantStart at h
    repeat' split at h
    all_goals cases h
    all_goals rfl
  exact (grantStart_atPumps h).trans
    ((enterStarting_atPumps (by rw [same]; exact idle)).trans (tellShed_atPumps ..))

theorem setReason_pumps (reason : Unmet) (s : State) :
    (setReason reason s).pumps = s.pumps ∧ (setReason reason s).gates = s.gates := by
  have told : Told s (if reason = s.group.reason then s
      else raise unmetSource [unmetCode reason, word s.group.demand, word s.activeCount] s) :=
    ite_told (.refl s) (raise_told ..)
  unfold setReason
  generalize (if reason = s.group.reason then s
    else raise unmetSource [unmetCode reason, word s.group.demand, word s.activeCount] s) = t at told ⊢
  dsimp only
  have pumps := told.pumps
  have gates := told.gates
  repeat' split
  all_goals exact ⟨pumps, gates⟩

/-- A group decision starts idle pumps, reclaims and stops running ones, and leaves a LOCKED or DISABLED pump as it is
(R115). -/
theorem groupDecision_atPumps (s : State) : AtPumps s (groupDecision s) := by
  have work : AtPumps s (decisionWork s).1 := by
    unfold decisionWork
    split
    · exact .refl s
    · dsimp only
      split
      · exact (reclaim_atPumps 4 s).trans (considerStart_atPumps _)
      · exact (reclaim_atPumps 4 s).trans (stopSurplus_atPumps 4 _)
  have marked := setReason_pumps (decisionWork s).2 (decisionWork s).1
  exact work.trans (.ofSame (setReason_moved ..) marked.2 marked.1)

/-- What a decision leaves of a pump that is neither idle nor running. -/
theorem Decided.resting {a b : Pump} (d : Decided a b) (rest : a.state = .locked ∨ a.state = .disabled) : b = a := by
  cases d with
  | same h => exact h
  | started was => rcases rest with r | r <;> rw [r] at was <;> cases was
  | moved was => rcases rest with r | r <;> rw [r] at was <;> rcases was with w | w <;> cases w

end Sys2Proof.Machine
end

