-- ==== Sys2Proof/WellFormed.lean ====
section
/-! DEFINITION. Which commands can be sent: a cell is 3 to 24 words (1.1), so it holds at most 21 operand words,
of which a row that supplies the table or the kind itself has used one; a frame holds at least its header. -/

namespace Sys2Proof

/-- The operand words that fit a 24-word cell after its three header words and `fixed` operand words (1.1). -/
def opsFit (fixed : Nat) (ops : List Word) : Bool := decide (ops.length + fixed ≤ 21)

/-- The check on a command's operands; the operands of every other command are within range by their types. -/
def Instr.wf : Instr → Bool
  | .frameReceived words => !words.isEmpty
  | .read _ ops | .find _ ops | .status _ ops | .setPlan _ ops | .demand _ ops | .release _ ops
  | .gateStop _ ops | .clearAlarm _ ops | .convert _ ops | .lineReset _ ops | .forceLevel _ ops
  | .unforce _ ops => opsFit 0 ops
  | .eraseTag _ ops | .eraseAction _ ops | .writeTag _ ops | .writeAction _ ops | .writeScene _ ops
  | .writeThreshold _ ops | .writeTracker _ ops | .writeTrackerHold _ ops | .writeAnalog _ ops
  | .writeDigital _ ops | .writeScan _ ops | .writePump _ ops | .writePumpGroup _ ops | .writeGate _ ops
  | .writeLamp _ ops | .writeBudget _ ops | .writeReport _ ops | .writeGain _ ops
  | .clearFaultPump _ ops | .clearFaultGate _ ops | .clearFaultLamp _ ops | .presetRunSeconds _ ops
  | .presetLossCounter _ ops => opsFit 1 ops
  | .masterReset _ _ | .discardedFrame | .frameDeparture | .frameTimeout | .conversionComplete _
  | .sampleTimerExpiry _ | .lockSettle _ | .lockTimeEnd _ | .secondTick | .holdoverTimeout _ | .revert _
  | .primaryWatchExpiry _ | .holdExpiry _ | .filteredStateChange _ | .startLogExpiry _ | .confirmExpiry _
  | .runOnEnd _ | .releaseTimerExpiry | .leadExpiry _ | .travelTimeout _ | .reverseEnd _ | .rampTick
  | .digitalInputSample _ | .frameSent => true

end Sys2Proof
end

