-- ==== Sys2Proof/Laws/PerInstr.lean ====
section
/-! SUPPORT. Statements about every command as syntax, one lemma a constructor. -/

namespace Sys2Proof.Laws.Wf

open Sys2Proof.Machine

/-- A command cell's row is well formed exactly when the operand words it offers fit a cell of 24 words (1.1): with the
three header words, at most 21, the table or kind word that a row supplies counted. -/
def Statement (i : Instr) : Prop :=
  ∀ (name : CommandName) (h : CellHeader) (payload : List Word), offered i = some (name, h, payload) →
    (i.wf = true ↔ payload.length ≤ 21)

theorem masterReset (straps : Byte) (levels : Word) : Statement (.masterReset straps levels) := nofun

theorem frameReceived (words : List Word) : Statement (.frameReceived words) := nofun

theorem discardedFrame : Statement (.discardedFrame) := nofun

theorem frameDeparture : Statement (.frameDeparture) := nofun

theorem frameTimeout : Statement (.frameTimeout) := nofun

theorem read (h : CellHeader) (ops : List Word) : Statement (.read h ops) := by
  rintro n k p ⟨⟩
  simp [Instr.wf, opsFit]

theorem eraseTag (h : CellHeader) (ops : List Word) : Statement (.eraseTag h ops) := by
  rintro n k p ⟨⟩
  simp [Instr.wf, opsFit]

theorem eraseAction (h : CellHeader) (ops : List Word) : Statement (.eraseAction h ops) := by
  rintro n k p ⟨⟩
  simp [Instr.wf, opsFit]

theorem find (h : CellHeader) (ops : List Word) : Statement (.find h ops) := by
  rintro n k p ⟨⟩
  simp [Instr.wf, opsFit]

theorem writeTag (h : CellHeader) (ops : List Word) : Statement (.writeTag h ops) := by
  rintro n k p ⟨⟩
  simp [Instr.wf, opsFit]

theorem writeAction (h : CellHeader) (ops : List Word) : Statement (.writeAction h ops) := by
  rintro n k p ⟨⟩
  simp [Instr.wf, opsFit]

theorem writeScene (h : CellHeader) (ops : List Word) : Statement (.writeScene h ops) := by
  rintro n k p ⟨⟩
  simp [Instr.wf, opsFit]

theorem writeThreshold (h : CellHeader) (ops : List Word) : Statement (.writeThreshold h ops) := by
  rintro n k p ⟨⟩
  simp [Instr.wf, opsFit]

theorem writeTracker (h : CellHeader) (ops : List Word) : Statement (.writeTracker h ops) := by
  rintro n k p ⟨⟩
  simp [Instr.wf, opsFit]

theorem writeTrackerHold (h : CellHeader) (ops : List Word) : Statement (.writeTrackerHold h ops) := by
  rintro n k p ⟨⟩
  simp [Instr.wf, opsFit]

theorem writeAnalog (h : CellHeader) (ops : List Word) : Statement (.writeAnalog h ops) := by
  rintro n k p ⟨⟩
  simp [Instr.wf, opsFit]

theorem writeDigital (h : CellHeader) (ops : List Word) : Statement (.writeDigital h ops) := by
  rintro n k p ⟨⟩
  simp [Instr.wf, opsFit]

theorem writeScan (h : CellHeader) (ops : List Word) : Statement (.writeScan h ops) := by
  rintro n k p ⟨⟩
  simp [Instr.wf, opsFit]

theorem writePump (h : CellHeader) (ops : List Word) : Statement (.writePump h ops) := by
  rintro n k p ⟨⟩
  simp [Instr.wf, opsFit]

theorem writePumpGroup (h : CellHeader) (ops : List Word) : Statement (.writePumpGroup h ops) := by
  rintro n k p ⟨⟩
  simp [Instr.wf, opsFit]

theorem writeGate (h : CellHeader) (ops : List Word) : Statement (.writeGate h ops) := by
  rintro n k p ⟨⟩
  simp [Instr.wf, opsFit]

theorem writeLamp (h : CellHeader) (ops : List Word) : Statement (.writeLamp h ops) := by
  rintro n k p ⟨⟩
  simp [Instr.wf, opsFit]

theorem writeBudget (h : CellHeader) (ops : List Word) : Statement (.writeBudget h ops) := by
  rintro n k p ⟨⟩
  simp [Instr.wf, opsFit]

theorem writeReport (h : CellHeader) (ops : List Word) : Statement (.writeReport h ops) := by
  rintro n k p ⟨⟩
  simp [Instr.wf, opsFit]

theorem writeGain (h : CellHeader) (ops : List Word) : Statement (.writeGain h ops) := by
  rintro n k p ⟨⟩
  simp [Instr.wf, opsFit]

theorem status (h : CellHeader) (ops : List Word) : Statement (.status h ops) := by
  rintro n k p ⟨⟩
  simp [Instr.wf, opsFit]

theorem setPlan (h : CellHeader) (ops : List Word) : Statement (.setPlan h ops) := by
  rintro n k p ⟨⟩
  simp [Instr.wf, opsFit]

theorem demand (h : CellHeader) (ops : List Word) : Statement (.demand h ops) := by
  rintro n k p ⟨⟩
  simp [Instr.wf, opsFit]

theorem release (h : CellHeader) (ops : List Word) : Statement (.release h ops) := by
  rintro n k p ⟨⟩
  simp [Instr.wf, opsFit]

theorem gateStop (h : CellHeader) (ops : List Word) : Statement (.gateStop h ops) := by
  rintro n k p ⟨⟩
  simp [Instr.wf, opsFit]

theorem clearFaultPump (h : CellHeader) (ops : List Word) : Statement (.clearFaultPump h ops) := by
  rintro n k p ⟨⟩
  simp [Instr.wf, opsFit]

theorem clearFaultGate (h : CellHeader) (ops : List Word) : Statement (.clearFaultGate h ops) := by
  rintro n k p ⟨⟩
  simp [Instr.wf, opsFit]

theorem clearFaultLamp (h : CellHeader) (ops : List Word) : Statement (.clearFaultLamp h ops) := by
  rintro n k p ⟨⟩
  simp [Instr.wf, opsFit]

theorem clearAlarm (h : CellHeader) (ops : List Word) : Statement (.clearAlarm h ops) := by
  rintro n k p ⟨⟩
  simp [Instr.wf, opsFit]

theorem convert (h : CellHeader) (ops : List Word) : Statement (.convert h ops) := by
  rintro n k p ⟨⟩
  simp [Instr.wf, opsFit]

theorem lineReset (h : CellHeader) (ops : List Word) : Statement (.lineReset h ops) := by
  rintro n k p ⟨⟩
  simp [Instr.wf, opsFit]

theorem forceLevel (h : CellHeader) (ops : List Word) : Statement (.forceLevel h ops) := by
  rintro n k p ⟨⟩
  simp [Instr.wf, opsFit]

theorem unforce (h : CellHeader) (ops : List Word) : Statement (.unforce h ops) := by
  rintro n k p ⟨⟩
  simp [Instr.wf, opsFit]

theorem presetRunSeconds (h : CellHeader) (ops : List Word) : Statement (.presetRunSeconds h ops) := by
  rintro n k p ⟨⟩
  simp [Instr.wf, opsFit]

theorem presetLossCounter (h : CellHeader) (ops : List Word) : Statement (.presetLossCounter h ops) := by
  rintro n k p ⟨⟩
  simp [Instr.wf, opsFit]

theorem conversionComplete (raw : BitVec 12) : Statement (.conversionComplete raw) := nofun

theorem sampleTimerExpiry (t : Fin 4) : Statement (.sampleTimerExpiry t) := nofun

theorem lockSettle (t : Fin 4) : Statement (.lockSettle t) := nofun

theorem lockTimeEnd (t : Fin 4) : Statement (.lockTimeEnd t) := nofun

theorem secondTick : Statement (.secondTick) := nofun

theorem holdoverTimeout (t : Fin 4) : Statement (.holdoverTimeout t) := nofun

theorem revert (t : Fin 4) : Statement (.revert t) := nofun

theorem primaryWatchExpiry (t : Fin 4) : Statement (.primaryWatchExpiry t) := nofun

theorem holdExpiry (target : DemandTarget) : Statement (.holdExpiry target) := nofun

theorem filteredStateChange (i : Fin 16) : Statement (.filteredStateChange i) := nofun

theorem startLogExpiry (p : Fin 4) : Statement (.startLogExpiry p) := nofun

theorem confirmExpiry (p : Fin 4) : Statement (.confirmExpiry p) := nofun

theorem runOnEnd (p : Fin 4) : Statement (.runOnEnd p) := nofun

theorem releaseTimerExpiry : Statement (.releaseTimerExpiry) := nofun

theorem leadExpiry (g : Fin 2) : Statement (.leadExpiry g) := nofun

theorem travelTimeout (g : Fin 2) : Statement (.travelTimeout g) := nofun

theorem reverseEnd (g : Fin 2) : Statement (.reverseEnd g) := nofun

theorem rampTick : Statement (.rampTick) := nofun

theorem digitalInputSample (levels : Word) : Statement (.digitalInputSample levels) := nofun

theorem frameSent : Statement (.frameSent) := nofun

end Sys2Proof.Laws.Wf
end

