-- ==== Sys2Proof/Tests/Slice0.lean ====
section
/-! SUPPORT. Tests of the model: the checks of WellFormed, the worked examples of spec/ (each names its section), and for
every statement with hypotheses a concrete state that meets them, clause by clause. -/

set_option maxRecDepth 20000

namespace Sys2Proof.Tests

open Sys2Proof.Machine

/-! ## Small states -/

/-- A command cell for this station, transaction 1, without and with the maintenance flag. -/
def hdr : CellHeader := { tag := 0x2A01, transaction := 1, code := 0, maintenance := false }
def mhdr : CellHeader := { hdr with maintenance := true }

/-- The state after a command; no command of this block stops. -/
def after (i : Instr) (s : State) : State :=
  match exec i s with
  | .next t => t
  | .fault _ => s
  | .refused _ => s

/-- Master reset with the loop UP; a state with a time, a filtered input, a tracker, a pump, a gate, a lamp channel in place of its own. -/
def later (n : Nat) (s : State) : State := { s with time := { s.time with now := n, msToSecond := n, msToRamp := n } }
def lit (i : Fin 16) (s : State) : State := s.putDigital i { s.digital[i] with filtered := true }
def ready : State := { State.reset with loop := { State.reset.loop with state := .up } }
def keyed : State := lit 15 ready
def tank (f : Tracker → Tracker) (s : State) : State := s.putTracker 0 (f s.trackers[(0 : Fin 4)])
def pump (p : Fin 4) (f : Pump → Pump) (s : State) : State := s.putPump p (f s.pumps[p])
def gate (f : Gate → Gate) (s : State) : State := s.putGate 0 (f s.gates[(0 : Fin 2)])
def lamp (c : Fin 8) (f : Lamp → Lamp) (s : State) : State := s.putLamp c (f s.lamps[c])
def waiting (f : HeldFrame) (s : State) : State := { s with loop := { s.loop with reception := some f } }
def slot0 (value : Nat) (arrival : Nat) (s : State) : State :=
  s.putSlot 0 { filled := true, value := value, quality := .good, sequence := 0, arrival := arrival }

/-! ## WellFormed: an ill-formed term for each check -/

theorem test_wf_frame_has_header : (Instr.frameReceived []).wf = false ∧ (Instr.frameReceived [0]).wf = true := by
  decide
theorem test_wf_operands_fit_the_cell :
    (Instr.read hdr (List.replicate 22 0)).wf = false ∧ (Instr.read hdr (List.replicate 21 0)).wf = true := by decide
theorem test_wf_supplied_word_counts :
    (Instr.writeTag hdr (List.replicate 21 0)).wf = false ∧ (Instr.writeTag hdr (List.replicate 20 0)).wf = true := by
  decide
theorem test_no_row_has_bits : decodeTableWord 16 0 = none := rfl

/-! ## Worked examples of the spec -/

/-- 1.1: the check word of "12345678" under the stated polynomial and start value, computed outside the model. -/
theorem test_check_word : checkWord [0x3132, 0x3334, 0x3536, 0x3738] = 0xA12B := by decide

/-- 1.8: of three completed replies of 4, 7 and 4 words, 12 free words take the first two. -/
theorem test_arbiter_of_1_8 :
    let reply (n : Nat) : List Word := List.replicate n 0
    let s : State :=
      { State.reset with
        loop := { State.reset.loop with reception := some { good := true, header := 108, body := List.replicate 108 0 } }
        replies := { reserved := [replyTo hdr], completed := [reply 4, reply 7, reply 4] } }
    (after .frameDeparture s).replies.completed = [reply 4] ∧
      ((after .frameDeparture s).loop.departing.getD []).length = 121 := by decide

/-- 1.8: a sample cell with sequence 17 and element 1 at 830, captured over sequence 16. -/
theorem test_capture_of_1_8 :
    let e : TagEntry :=
      { valid := true, base := 0x31F0, mask := 0, kinds := 8, disposition := .capture, slot := 0, element := 1 }
    let s := State.reset.putSlot 0 { filled := true, value := 812, quality := .good, sequence := 16, arrival := 0 }
    (capture e [0, 0x31F0, 0x1104, 7, 830, 9, 9] s).slots[(0 : Fin 8)] =
      { filled := true, value := 830, quality := .good, sequence := 17, arrival := 0 } := by decide

/-- 3.5: the level input at raw codes 2000 and 300, and the current input at 1200. -/
theorem test_conversions_of_3_5 :
    let level : AnalogConfig := { role := .level, zero := 819, scale := 1280, floor := 400 }
    let current : AnalogConfig := { role := .current, zero := 0, scale := 256, floor := 0 }
    (correctedCode 2000 4000 = 1953 ∧ judgeCode level 2000 1953 = (5670, .good, .none)) ∧
      (correctedCode 300 4000 = 293 ∧ judgeCode level 300 293 = (0, .invalid, .wireBreak)) ∧
      correctedCode 1200 4000 = 1172 ∧ judgeCode current 1200 1172 = (1172, .good, .none) := by decide

/-- 3.6: the bouncing float switch, D = 3: the run and the change due after each of six ticks. -/
theorem test_bounce_of_3_6 :
    let d : Digital :=
      { config := { activeLow := false, debounce := 3, edges := .both }, level := false, raw := false,
        filtered := false, run := 0, changeDue := false, changed := false }
    let runs := [true, false, true, true, true, true].foldl
      (fun (acc : Digital × List (Nat × Bool)) l =>
        let x := acc.1.sample l
        (x, acc.2 ++ [(x.run, x.changeDue)])) (d, [])
    runs.2 = [(1, false), (0, false), (1, false), (2, false), (3, false), (4, true)] := by decide

/-- 4.3: the two worked cases of the filter. -/
theorem test_filter_of_4_3 :
    let x : Tracker := { resetTracker with accumulator := 1600, estimate := 100 }
    (x.error 180 = 1280 ∧ (x.filterStep 1280 3).accumulator = 1760 ∧ (x.filterStep 1280 3).estimate = 110) ∧
      (x.filterStep (-5) 2).accumulator = 1598 ∧ (x.filterStep (-5) 3).accumulator = 1599 := by decide

/-- 4.4: the hitless switch of T1, its arrival of 1455 and the bleed of the next second. -/
theorem test_hitless_switch_of_4_4 :
    let x : Tracker := { resetTracker with state := .tracking, active := .primary, accumulator := 23680, estimate := 1480 }
    let y := x.switch .secondary 1000 { value := 1452, quality := .good, arrival := 400 }
    let z := y.trackSample 1100 1455
    (y.state = .tracking ∧ y.active = .secondary ∧ y.offset = 28) ∧
      (z.accumulator = 23681 ∧ z.estimate = 1480) ∧ z.bleedTick.offset = 27 := by decide

/-- The ring of the sump transducer example (4.5, 4.14), newest first. -/
def stormRing : List HistoryEntry :=
  [1200, 1196, 1190, 1185, 1181, 1176, 1170, 1166].map fun n => { level := n, valid := true }

/-- The thresholds of the same example (4.14). -/
def stormThresholds : List Threshold :=
  [{ level := 400, hysteresis := 20 }, { level := 900, hysteresis := 50 }, { level := 1300, hysteresis := 100 }]

/-- 4.5 and 4.14: Hold = 1183 at the loss, E = 1303 at k = 25 stepping the band to 3, and E = 1327 at k = 30. -/
theorem test_holdover_of_4_14 :
    let x : Tracker :=
      { resetTracker with
        state := .tracking, active := .primary, estimate := 1201, accumulator := 19216, band := some 2,
        thresholds := stormThresholds, ring := stormRing, lastRate := some 288, loss := 2 }
    let y := x.enterHoldover
    let at24 : Tracker := { y with holdSeconds := 24 }
    let at29 : Tracker := { y with holdSeconds := 29 }
    (y.estimate = 1183 ∧ y.accumulator = 18928 ∧ y.band = some 2 ∧ y.loss = 3 ∧ y.alarm = false) ∧
      (at24.holdoverTick.estimate = 1303 ∧ at24.holdoverTick.band = some 3) ∧ at29.holdoverTick.estimate = 1327 := by
  decide

/-- 4.14: the return at k = 41 on 1290 mm, then 1291 twice. -/
theorem test_return_of_4_14 :
    let x : Tracker :=
      { resetTracker with
        state := .acquire, active := .primary, estimate := 1379, accumulator := 22064, band := some 3,
        thresholds := stormThresholds }
    let a := x.acquireSample 0 1290
    let b := a.acquireSample 0 1291
    let c := b.acquireSample 0 1291
    [(a.accumulator, a.estimate), (b.accumulator, b.estimate), (c.accumulator, c.estimate)] =
        [(21708, 1357), (21445, 1340), (21247, 1328)] ∧ c.band = some 3 := by decide

/-- 4.6: the worked rates of rise, 420, −466 and the clamp at 4095. -/
theorem test_rates_of_4_6 :
    let ring (w newest oldest : Nat) : List HistoryEntry :=
      (List.range 16).map fun k => { level := if k = w then oldest else newest, valid := true }
    let at? (w newest oldest : Nat) : Tracker :=
      { resetTracker with hold := { resetTracker.hold with window := w }, ring := ring w newest oldest }
    ((at? 10 1250 1180).rateTick.rate = 420 ∧ (at? 9 1180 1250).rateTick.rate = -466) ∧
      (at? 1 900 200).rateTick.rate = 4095 := by decide

/-- 4.7: the band at 905, 870, 845 from band 1, and at a forced 1600. -/
theorem test_bands_of_4_7 :
    let ths : List Threshold :=
      [{ level := 400, hysteresis := 20 }, { level := 900, hysteresis := 50 }, { level := 1500, hysteresis := 100 }]
    [stepBand ths 905 (some 1), stepBand ths 870 (some 2), stepBand ths 845 (some 2), stepBand ths 1600 (some 1)] =
      [some 2, some 2, some 1, some 3] := by decide

/-- 5.2: the overlap check. Entries 1 and 2 hold one key with plans 0 and 1. -/
theorem test_overlap_of_5_2 :
    let e (plans : Byte) : ActionEntry :=
      { valid := true, tracker := 0, band := some 2, edge := .enter, plans := plans, items := [.pumps 0] }
    let s := (State.reset.putAction 1 (e 0x01)).putAction 2 (e 0x02)
    let t := s.putAction 9 (e 0x0C)
    (s.overlaps (some 9) (e 0x06) = true ∧ s.overlaps (some 9) (e 0x0C) = false) ∧
      (t.overlaps (some 2) (e 0x12) = false ∧ t.overlaps none { e 0x0F with edge := .leave } = false) ∧
      t.freeAction = some 0 ∧ t.overlaps (some 9) { e 0x01 with valid := false } = false := by decide

/-- 5.7, step 1: band 1 to 2 under plan 0 runs entry 1, whose PLAN 1 runs entries 2, 5 and 7 in its cascade. -/
theorem test_storm_of_5_7 :
    let e (t : Fin 4) (b : Band) (plans : Byte) (items : List Item) : ActionEntry :=
      { valid := true, tracker := t, band := b, edge := .enter, plans := plans, items := items }
    let put (s : State) (n : Fin 64) (x : ActionEntry) := s.putAction n x
    let s := put (put (put (put State.reset 1 (e 0 (some 2) 1 [.pumps 2, .plan 1])) 2 (e 0 (some 2) 2 [.pumps 3]))
      5 (e 1 (some 0) 2 [.scene 0 3])) 7 (e 2 none 2 [.event 12])
    let bands := (tank (fun x => { x with effective := some 2 }) s).putTracker 1 { resetTracker with effective := some 0 }
    let t := (bandWork 0 (some 1) (some 2) bands).state
    (t.plan = 1 ∧ t.demands.pumps.automatic = 3 ∧ t.demands.pumps.entry = some 2) ∧
      (t.demands.zones[(0 : Fin 4)].automatic = 3 ∧
        owners.filter (t.tells bands.demands noFresh true) = [.pumps, .zone 0]) ∧
      t.events.records[planSource].detail = [1, 0, 1, 1, 0, 0xFFFF, 0xFFFF] ∧
      t.events.records[actionSource].detail = [12, 7] := by decide

/-- The pumps of 6.10: IDLE with the example's record and run seconds. -/
def rising : State :=
  let put (s : State) (p : Fin 4) (n : BitVec 32) : State :=
    pump p (fun x =>
      { x with
        config :=
          { x.config with
            available := true, rated := 1100, start := 2200, minimumRun := 120, runOn := 20, startsPerHour := 2 }
        state := .idle, runSeconds := n }) s
  let s := put (put (put (put State.reset 0 5000) 1 4200) 2 4800) 3 6100
  { s with
    group := { s.group with config := { sump := 0, dryBand := some 0, stagger := 15 } }
    time := { s.time with now := 10000500, seconds := 10000 } }

/-- 6.10: at a demand of 3 the pump with the fewest run seconds starts, alone; its feedback makes it RUNNING. -/
theorem test_rising_demand_of_6_10 :
    let s := pumpDemandNotice 3 rising
    let t := pumpInputNotice 1 (lit 1 s)
    (s.pumps.toList.map (·.state) = [.idle, .starting, .idle, .idle] ∧ s.group.reason = .none) ∧
      (s.pumps[(1 : Fin 4)].startLog = [10000] ∧ s.group.lastStart = 10000500) ∧
      t.pumps.toList.map (·.state) = [.idle, .running, .idle, .idle] := by decide

/-- The gate of 7.5, OPEN with its open limit active, channel 6 its warning signal. -/
def closing : State :=
  lit 8 (gate (fun x =>
    { x with
      config :=
        { x.config with
          present := true, obstruction := some 12, travel := 45, lead := 30, degraded := 60, warning := 0x40,
          reverse := 4, retryLimit := 2, tracker := 1, band := 0 }
      state := .opened })
    (lamp 6 (fun l => { l with config := { l.config with role := .warn } }) State.reset))

/-- 7.5: CLOSE begins a warning of 30 s with channel 6 lit, and a lamp fault makes the lead 60 s. -/
theorem test_warning_of_7_5 :
    let s := gateDemandNotice 0 .close true closing
    let t := gateLampNotice 0 true s
    (s.gates[(0 : Fin 2)].state = .warning ∧ s.gates[(0 : Fin 2)].leadInForce = some 30) ∧
      s.lamps[(6 : Fin 8)].output = 255 ∧ t.gates[(0 : Fin 2)].leadInForce = some 60 := by decide

/-- 7.5: the obstruction reverses the closing gate, and the reversal ends in a first retry with a fresh warning. -/
theorem test_reversal_of_7_5 :
    let moving := gate (fun x => { x with state := .closing, demand := .close, travelFrom := some 60000 }) closing
    let s := gateInputNotice 0 12 (lit 12 { moving with digital := State.reset.digital })
    let t := after (.reverseEnd 0) (later 75000 (gate (fun x => { x with reverseFrom := some 71000 }) s))
    s.gates[(0 : Fin 2)].state = .reversing ∧ t.gates[(0 : Fin 2)].state = .warning ∧
      t.gates[(0 : Fin 2)].retry = 1 := by decide

/-- 8.4: channel 2 steps from 0 to 40 of a target of 200, and its load is 63, then 101 at the cap of 64. -/
theorem test_ramp_of_8_4 :
    let s := lamp 2 (fun l =>
      { l with target := 200, config := { l.config with fullLoad := 400, rampRate := 40, floor := 64 } }) State.reset
    let t := after .rampTick (later 100 s)
    t.lamps[(2 : Fin 8)].output = 40 ∧ lampLoad t.lamps[(2 : Fin 8)] 40 = 63 ∧
      lampLoad t.lamps[(2 : Fin 8)] 64 = 101 ∧ stageCap 1 t.lamps[(2 : Fin 8)].config = 64 := by decide

/-- 8.5: the current check of channel 6 at 255 of 150 with tolerance 20: 148 passes, 0 fails. -/
theorem test_lamp_check_of_8_5 :
    let s := later 3000 (lamp 6 (fun l =>
      { l with output := 255, config := { l.config with fullCurrent := 150, tolerance := 20 } }) State.reset)
    let l := (currentCheck 6 148 s).lamps[(6 : Fin 8)]
    let m := (currentCheck 6 0 (currentCheck 6 0 (currentCheck 6 0 s))).lamps[(6 : Fin 8)]
    (l.verdict = .pass ∧ l.expected = some 150) ∧ m.verdict = .fail ∧ m.count = 3 ∧ m.fault = true := by decide

/-- The generator of 9.7: P0 RUNNING, P1 to P2 IDLE, two warning channels of 30, six lit channels of 400. -/
def generator : State :=
  let lit6 := [0, 1, 2, 3, 4, 5].foldl (fun s c => lamp c (fun l =>
    { l with
      output := 200, target := 200, config := { l.config with fullLoad := 400, floor := 64 } }) s) State.reset
  let warn := [6, 7].foldl (fun s c => lamp c (fun l =>
    { l with config := { l.config with role := .warn, fullLoad := 30 } }) s) lit6
  let idle := [0, 1, 2].foldl (fun s p => pump p (fun x =>
    { x with
      state := .idle
      config := { x.config with available := true, rated := 1100, start := 2200, planMask := 0 } }) s) warn
  let s := pump 0 (fun x => { x with state := .running, runSeconds := 9 }) idle
  { s with allocator := { s.allocator with budget := { s.allocator.budget with mains := 4000 } } }

/-- 9.7: committed load 3044; the start of P1 raises stage 1 and leaves 3966. -/
theorem test_shed_for_start_of_9_7 :
    let s := pumpDemandNotice 2 (later 20000 generator)
    (generator.committed = 3044 ∧ s.committed = 3966 ∧ s.allocator.stage = 1) ∧
      s.pumps.toList.map (·.state) = [.running, .starting, .idle, .disabled] ∧
      s.events.records[shedSource].detail = [1, 0, 0, 3966] := by decide

/-- 9.7: with both pumps RUNNING, a third start is refused for load; a budget of 2000 then darkens the lamps, stops P0
and leaves 1160. -/
theorem test_derating_of_9_7 :
    let s := pumpDemandNotice 2 (later 20000 generator)
    let two' := pump 1 (fun x => { x with state := .running, runSeconds := 5 }) s
    let t := pumpDemandNotice 3 (later 40000 two')
    let u := retakeSupply { t with allocator := { t.allocator with budget := { t.allocator.budget with mains := 2000 } } }
    (t.group.reason = .load ∧ t.group.waiting = true ∧ t.allocator.releaseFrom = none) ∧
      (u.allocator.stage = 2 ∧ u.committed = 1160) ∧
      u.pumps.toList.map (·.state) = [.idle, .running, .idle, .disabled] ∧ u.group.reason = .load := by decide

/-! ## The hypotheses of the statements are met -/

theorem witness_StepRunsTheFrontCommand :
    { ready with pending := [.frameSent, .rampTick] }.pending = Instr.frameSent :: [.rampTick] ∧
      ready.pending = [] := ⟨rfl, rfl⟩

theorem witness_LineResetValues : Accepted hdr ready := by unfold Accepted; decide

theorem witness_ResetsEmptyTheSlots :
    Accepted hdr ready ∧ ready.slots[(0 : Fin 8)].filled = false ∧
      (elements [0, 0, 0x0101, 7])[(0 : Fin 4).val]? = some (7 : Word) := by unfold Accepted; decide

theorem witness_EmptyGoodFrameAccepted :
    ready.loop.reception = none ∧ headerDamaged 0 = false ∧ headerLength 0 = 0 := by decide

theorem witness_FramesHeldCountedAndSent :
    (ready.loop.reception = none ∧ headerLength 0x8001 = [(5 : Word)].length ∧ headerDamaged 0x8001 = true) ∧
      (headerLength 0x0078 = 120 ∧ 120 < headerLength 0x0079) ∧
      (([] : List Word).length ≤ headerLength 0x0078) ∧
      (waiting { good := true, header := 0, body := [] } ready).loop.reception.isSome = true := by decide

theorem witness_DamagedFrameDeparts :
    let s := waiting { good := false, header := 0x8000, body := [] } ready
    s.loop.departing = none ∧ s.loop.reception = some { good := false, header := 0x8000, body := [] } ∧
      ([] : List Word).length ≤ 127 := by decide

theorem witness_GoodFrameDeparts :
    let s := waiting { good := true, header := 0, body := [] } ready
    s.loop.departing = none ∧ s.loop.reception = some { good := true, header := 0, body := [] } ∧
      ([] : List Word).length ≤ 120 := by decide

/-- A beacon and two events of 13 words each behind a body of 107 words: the first event is the first that does not fit. -/
theorem witness_GoodFrameDeparts_stops :
    let s := raise 17 [1, 2, 3, 4, 5, 6, 7] (raise 3 [1, 2, 3, 4, 5, 6, 7]
      (waiting { good := true, header := 107, body := List.replicate 107 0 }
        { ready with
          report := { ready.report with enables := 0x3FFFFF }, beacon := { ready.beacon with due := true } }))
    let t := after .frameDeparture s
    (s.candidates.map fun x => x.length) = [7, 13, 13] ∧ t.beacon.due = false ∧ t.events = s.events := by decide

theorem witness_BeaconAndEventLeave :
    let s := waiting { good := true, header := 107, body := List.replicate 107 0 } ready
    (s.loop.departing = none ∧ s.replies.completed = [] ∧ (List.replicate 107 (0 : Word)).length ≤ 107) ∧
      { s with beacon := { s.beacon with due := true } }.beacon.due = true ∧
      (∀ n : Fin 22, s.events.records[n].pending = false) ∧
      ∀ m : Fin 22, (raise 17 [1, 2, 3, 4, 5, 6, 7] s).events.records[m].pending = decide (m = 17) := by decide

theorem witness_FrameTimeoutLosesTheLoop :
    let s := later 200 { ready with loop := { ready.loop with state := .up, timerFrom := some 0 } }
    s.timeoutDue = true ∧ s.allocator.budget.isolation = none ∧
      { s with allocator := { s.allocator with budget := { s.allocator.budget with isolation := some 3 } } }.timeoutDue =
        true := by decide

theorem witness_SampleCaptured :
    let e : TagEntry :=
      { valid := true, base := 0x31F0, mask := 0, kinds := 8, disposition := .capture, slot := 0, element := 0 }
    let s := ready.putTag 1 e
    let a := composeA 3 4
    (s.loop.reception = none ∧ headerDamaged 4 = false ∧ headerLength 4 = [(9 : Word)].length + 3) ∧
      (cellKind a = 3 ∧ cellLength a = [(9 : Word)].length + 3) ∧ s.decidingEntry 3 0x31F0 = some e := by decide

theorem witness_SampleCaptured_commands :
    let e : TagEntry :=
      { valid := true, base := 0xFF00, mask := 0, kinds := 2, disposition := .executeForward, slot := 0, element := 0 }
    let s := State.reset.putTag 1 e
    let a := composeA 1 3
    (s.loop.reception = none ∧ headerDamaged 3 = false ∧ headerLength 3 = ([] : List Word).length + 3) ∧
      headerLength 6 = ([] : List Word).length + 3 + (([] : List Word).length + 3) ∧
      (cellKind a = 1 ∧ cellLength a = ([] : List Word).length + 3) ∧
      s.decidingEntry 1 0x2A01 = some (resetTag 0x2A 0) ∧ (resetTag 0x2A 0).disposition = .execute ∧
      s.decidingEntry 1 0xFF00 = some e := by decide

/-- A body whose first cell has a length of 2, one that follows a cell, and a SAMPLE cell under each other disposition. -/
theorem witness_SampleCaptured_forwarded :
    let under (d : Disposition) (kinds : Word) : State :=
      ready.putTag 1 { valid := true, base := 0x31F0, mask := 0, kinds := kinds, disposition := d, slot := 0, element := 0 }
    MalformedFrom [composeA 1 2, 0, 0] ∧ MalformedFrom [0] ∧ cellKind (composeA 3 4) = 3 ∧
      (ready.decidingEntry 3 0x31F0).isNone = true ∧
      (∀ d ∈ [Disposition.pass, .execute, .executeForward],
        ((under d 8).decidingEntry 3 0x31F0).any (fun e => e.disposition == d) = true) ∧
      ∀ d ∈ [Disposition.pass, .capture],
        ((under d 2).decidingEntry 1 0x31F0).any (fun e => e.disposition == d) = true := by
  refine ⟨.inr (.inl (by decide)), .inl (by decide), by decide⟩

theorem witness_CommandsTurnedAway :
    offered (.read hdr []) = some (CommandName.read, hdr, []) ∧
      (State.reset.loop.state = .lost ∧ ready.loop.state = .up) ∧
      ({ ready with unit := { queueFullSeen := true, refusalSeen := false } }.canTake = false ∧
        { ready with
          replies := { reserved := [], completed := List.replicate 8 [0] } }.canTake = false) ∧
      (ready.canTake = true ∧ ready.unit.refusalSeen = false ∧ ready.maintenanceKey = false) ∧
      { ready with unit := { queueFullSeen := false, refusalSeen := true } }.canTake = true ∧
      needsMaintenance .unforce [] = true := by decide

/-- An ACTION record whose key is (T0, 2, ENTER) under plan 0, as words and as an entry. -/
def actionRecord : List Word := [1, 0, 2, 0, 1, 1, 0, 2, 0]
def actionEntry : ActionEntry :=
  { valid := true, tracker := 0, band := some 2, edge := .enter, plans := 1, items := [.pumps 2] }

/-- Records that their tables accept in the states used here. -/
def pumpRecord : List Word := [1, 0, 5, 1100, 2200, 10, 0, 0, 15, 0]
def gateRecord : List Word := [1, 8, 9, 12, 45, 30, 60, 0, 4, 2, 1, 0]
def lampRecord : List Word := [0, 1, 400, 40, 64, 0xFFFF, 150, 20]
def budgetRecord : List Word := [4000, 2000, 13, 60, 3]

theorem test_records_read :
    readAction actionRecord = some actionEntry ∧ (readPump pumpRecord).isSome = true ∧
      (readGate ready gateRecord).isSome = true ∧ (readLamp ready 2 lampRecord).isSome = true ∧
      (readBudget ready budgetRecord).isSome = true := by decide

theorem witness_RefusedForms :
    Accepted mhdr keyed ∧ readTable 16 = none ∧
      { keyed with converter := { keyed.converter with slot := .waiting 0 (replyTo hdr) } }.converter.slot ≠ .empty ∧
      (keyed.putAction 1 actionEntry).overlaps (some 0) actionEntry = true ∧
      (pump 0 (fun x => { x with state := .starting }) keyed).pumps[(0 : Fin 4)].runOutput = true ∧
      (gate (fun x => { x with state := .warning }) keyed).gates[(0 : Fin 2)].state ∈
        [GateState.warning, .closing, .opening, .reversing] ∧
      (lamp 2 (fun l => { l with output := 1 }) keyed).lamps[(2 : Fin 8)].output ≠ 0 ∧
      (pump 0 (fun x => { x with state := .locked }) keyed).pumps[(0 : Fin 4)].config.available = false ∧
      (let s := lit 8 (lit 9 (gate (fun x => { x with state := .fault }) keyed))
       s.gates[(0 : Fin 2)].state = .fault ∧ s.atOpen 0 = true ∧ s.atClosed 0 = true) ∧
      keyed.trackers[(0 : Fin 4)].state ≠ .forced := by unfold Accepted; decide

/-- The forms that are refused with RANGE, in the one state `keyed`. -/
theorem witness_RefusedForms_range :
    (offered (.lineReset mhdr [0]) = some (CommandName.lineReset, mhdr, [0]) ∧
        ([0] : List Word).length ≠ operandCount .lineReset) ∧
      (offered (.writeTag mhdr []) = some (CommandName.write, mhdr, [0]) ∧
        ([0] : List Word).length < operandCount .write) ∧
      (readTable 15 = some .gain ∧ keyed.record .gain 1 = none) ∧ statusRecord 9 0 keyed = none ∧
      readBand 9 = none ∧ (7 : Word).toNat = 7 ∧
      (∀ n : Fin 16, (16 : Word) ≠ word n.val) ∧ readTag [] = none ∧ readAction [] = none ∧ readScan [] = none ∧
      readReport [0, 0, 0, 64] = none := by decide

/-- A LAMP write that would raise the reserve by 30 above a MAINS budget that the load of P0 fills. -/
theorem witness_RefusedForms_reserve :
    let s := pump 0 (fun x => { x with state := .running, config := { x.config with rated := 65535 } }) keyed
    Accepted mhdr s ∧ s.lamps[(2 : Fin 8)].output = 0 ∧
      ((readLamp s 2 [1, 0, 30, 255, 0, 0xFFFF, 0, 0]).all fun k =>
        decide (reserveLoad s.lamps[(2 : Fin 8)].config < reserveLoad k ∧
          s.activeBudget < s.committed - reserveLoad s.lamps[(2 : Fin 8)].config + reserveLoad k)) = true ∧
      (readLamp s 2 [1, 0, 30, 255, 0, 0xFFFF, 0, 0]).isSome = true := by unfold Accepted; decide

/-- Every entry of the action table valid, none answering the key of actionEntry. -/
def fullTable : State :=
  { ready with actions := Vector.replicate 64 { resetAction with valid := true, plans := 0 } }

theorem witness_RefusedForms_full :
    Accepted hdr fullTable ∧ (∀ e : Fin 64, fullTable.actions[e].valid = true) ∧
      fullTable.overlaps none actionEntry = false := by unfold Accepted; decide

theorem witness_ReadsAnswer :
    Accepted hdr ready ∧ readTable 15 = some .gain ∧ (ready.record .gain 0).isSome = true ∧
      (statusRecord 0 0 ready).isSome = true ∧ readBand 8 = some (some 8) := by unfold Accepted; decide

theorem witness_PlainTableCommands :
    Accepted hdr ready ∧ Accepted mhdr keyed ∧ (readTag [1, 0x3100, 0xFF, 8, 2, 7, 3]).isSome = true ∧
      ready.analog[(15 : Fin 16)].config.role = .none ∧ (14 : Fin 16) ≠ 15 := by unfold Accepted; decide

/-- The role of input 3, which tracker 0 names in the second state. -/
theorem witness_PlainTableCommands_role :
    let s := tank (fun x => { x with config := { x.config with primary := some (.analog 3) } }) ready
    (AnalogRole.level ≠ ready.analog[(3 : Fin 16)].config.role ∧ Accepted hdr s) ∧
      (∀ j : Fin 4, ready.trackers[j].config.primary ≠ some (.analog 3) ∧
        ready.trackers[j].config.secondary ≠ some (.analog 3)) ∧
      (∀ c : Fin 8, ready.lamps[c].config.current ≠ some 3) ∧
      s.trackers[(0 : Fin 4)].config.primary = some (.analog 3) := by unfold Accepted; decide

theorem witness_ActionWriteStores :
    Accepted hdr ready ∧ ready.overlaps (some 63) actionEntry = false ∧
      ready.overlaps none actionEntry = false ∧ ready.actions[(0 : Fin 64)].valid = false ∧
      ∀ d : Fin 64, d < 0 → ready.actions[d].valid = true := by unfold Accepted; decide

/-- R169 with R27 and R85: an ACTION record written to ANY twice goes to entry 0 and is then refused with OVERLAP; an invalid
record goes to entry 0 both times. -/
theorem test_repeated_write_to_ANY :
    let once (record : List Word) := after (.writeAction hdr (0xFFFF :: record)) ready
    let twice (record : List Word) := after (.writeAction hdr (0xFFFF :: record)) (once record)
    let invalid : List Word := [0, 0, 2, 0, 1, 1, 0, 2, 0]
    (once actionRecord).actions[(0 : Fin 64)] = actionEntry ∧
      twice actionRecord = (once actionRecord).refused hdr .overlap ∧
      (twice invalid).actions[(1 : Fin 64)] = ready.actions[(1 : Fin 64)] := by decide

theorem witness_TrackerWritesStore :
    Accepted hdr ready ∧ (readThresholds [2, 400, 20, 900, 50]).isSome = true ∧
      (readTracker ready [16, 0xFFFF, 2, 5, 65535, 50, 10, 3, 2000]).isSome = true ∧
      (readHold [8, 600, 10, 0, 60, 100, 1, 30, 0xFFFF, 0, 3]).isSome = true := by unfold Accepted; decide

theorem witness_ScanWriteStores :
    readScan [3, 0x0001, 0x0F00] = some [0, 1, 15] ∧ readScan [0] = some [] ∧ ready.converter.inFlight = none := by
  decide

theorem witness_PumpWritesStore :
    let trippedPump := pump 0 (fun x => { x with state := .idle }) (lit 5 ready)
    Accepted hdr ready ∧ ready.pumps[(0 : Fin 4)].runOutput = false ∧ ready.pumps[(0 : Fin 4)].state = .disabled ∧
      (readGroup [3, 8, 120]).isSome = true ∧
      (pump 0 (fun x => { x with state := .locked }) ready).pumps[(0 : Fin 4)].runOutput = false ∧
      ready.inputActive (some 5) = false ∧
      trippedPump.inputActive (some 5) = true ∧ trippedPump.pumps[(0 : Fin 4)].state = .idle := by
  unfold Accepted; decide

/-- Dry protection under the record that a PUMP_GROUP write stores: in force at band 0, not in force at band 1. -/
theorem witness_PumpWritesStore_dry :
    let k : GroupConfig := { sump := 0, dryBand := some 0, stagger := 10 }
    let at' (b : Nat) : State :=
      tank (fun x => { x with state := .tracking, band := some b }) { ready with group := { ready.group with config := k } }
    (at' 0).dryInForce = true ∧ (at' 1).dryInForce = false := by decide

/-- The group of 6.10 with the loop UP at a demand, after a change of all its pumps. -/
def asked (n : Nat) (f : Fin 4 → Pump → Pump) : State :=
  let s := four.foldl (fun s p => pump p (f p) s) rising
  { s with loop := ready.loop, group := { s.group with demand := n, config := { s.group.config with dryBand := none } } }

/-- The pumps in RUN_ON of a state. -/
def runningOn (s : State) : Fin 4 → Bool := fun p => decide (s.pumps[p].state = .runOn)

theorem witness_GroupDecides :
    let idle := asked 3 fun _ x => x
    let still := asked 3 fun p x => if p = 0 then { x with state := .runOn } else { x with state := .disabled }
    let masked := asked 3 fun _ x => { x with config := { x.config with planMask := 1 } }
    let full := asked 3 fun _ x => { x with startLog := [1, 2] }
    let poor := { idle with allocator := { idle.allocator with budget := { idle.allocator.budget with mains := 0 } } }
    (Accepted hdr idle ∧ idle.dryInForce = false ∧ idle.activeCount < idle.group.demand) ∧
      (runningOn still 0 = true ∧ still.ahead (runningOn still) 0 < 3 ∧ still.activeCount + 1 < 3) ∧
      (∀ p : Fin 4, still.pumps[p].state ≠ .idle) ∧
      (∀ p : Fin 4, masked.pumps[p].state = .idle ∧ masked.pumps[p].config.planMask.getLsbD masked.plan = true) ∧
      (∀ p : Fin 4, full.pumps[p].config.startsPerHour ≤ full.pumps[p].startLog.length) ∧
      (idle.ahead (fun _ => true) 1 = 0 ∧ idle.group.lastStart + idle.group.config.stagger * 1000 ≤ idle.now) ∧
      (later 0 idle).now < idle.group.lastStart + idle.group.config.stagger * 1000 ∧
      idle.stageFor idle.pumps[(1 : Fin 4)].config.start = some 0 ∧
      poor.stageFor poor.pumps[(1 : Fin 4)].config.start = none := by unfold Accepted; decide

theorem witness_GroupDecides_surplus :
    let s := asked 1 fun _ x => { x with state := .running, runStart := some 0 }
    let all : Fin 4 → Bool := fun _ => true
    s.group.demand ≤ s.activeCount ∧ s.activeCount - s.group.demand = 3 ∧
      [s.stoppedAhead all 3, s.stoppedAhead all 0, s.stoppedAhead all 2, s.stoppedAhead all 1] = [0, 1, 2, 3] ∧
      ∀ p : Fin 4, s.pumps[p].config.minimumRun ≤ (s.time.seconds - 0).toNat := by decide

theorem witness_GateWriteStores :
    Accepted hdr ready ∧
      ready.gates[(0 : Fin 2)].state ∉ [GateState.warning, .closing, .opening, .reversing] ∧
      (gate (fun x => { x with state := .fault }) ready).gates[(0 : Fin 2)].state ∉
        [GateState.warning, .closing, .opening, .reversing] := by unfold Accepted; decide

/-- The record of a present gate, accepted when channel 6 is a WARN channel, with each pair of limits, each demand, and both
leads. -/
theorem witness_GateWriteStores_present :
    let signal := lamp 6 (fun l => { l with config := { l.config with role := .warn } }) ready
    let record (lead : Word) : List Word := [1, 8, 9, 12, 45, lead, lead, 0x40, 4, 2, 1, 0]
    let at? (d : GateDemand) (st : GateState) : State := gate (fun x => { x with demand := d, state := st }) signal
    let lost := signal.putTracker 1 { signal.trackers[(1 : Fin 4)] with state := .tracking, effective := some 0 }
    ((readGate signal (record 30)).isSome = true ∧ (readGate signal (record 0)).any (fun k => k.lead == 0) = true) ∧
      (∀ st ∈ [GateState.absent, .opened, .closed, .stopped],
        (at? .close st).gates[(0 : Fin 2)].state ∉ [GateState.warning, .closing, .opening, .reversing]) ∧
      ((lit 8 signal).filtered 8 = true ∧ (lit 8 signal).filtered 9 = false ∧ (lit 9 signal).filtered 9 = true) ∧
      (signal.inputActive (some 12) = false ∧ (lit 12 signal).inputActive (some 12) = true) ∧
      lost.trackers[(1 : Fin 4)].effective.any (fun b => decide (b ≤ 0)) = true := by decide

theorem witness_LampWriteStores :
    Accepted hdr ready ∧ ready.lamps[(2 : Fin 8)].output = 0 ∧
      ((readLamp ready 2 lampRecord).all fun k =>
        decide (reserveLoad k ≤ reserveLoad ready.lamps[(2 : Fin 8)].config)) = true := by
  unfold Accepted; decide

theorem witness_BudgetWriteFits :
    Accepted hdr ready ∧ ∀ c : Fin 8, ready.allocator.stage = 0 ∧ ready.lamps[c].output = 0 := by
  unfold Accepted; decide

/-- The deficit of 9.7 with both pumps RUNNING, above a budget of 2000, from stage 1. -/
theorem witness_BudgetWriteFits_deficit :
    let s := pump 1 (fun x => { x with state := .running, runSeconds := 5 })
      { generator with loop := ready.loop, allocator := { generator.allocator with stage := 1 } }
    Accepted hdr s ∧ (readBudget s [2000, 2000, 0xFFFF, 60, 0xFFFF]).isSome = true ∧ 2000 < s.committed ∧
      (∀ p : Fin 4, s.pumps[p].runOutput = true ↔ p = 0 ∨ p = 1) := by unfold Accepted; decide

/-- 9.1: a release time of 10 s stored when the timer stands at 20 s lowers the stage at the next tick and not before. -/
theorem test_release_time_of_9_1 :
    let s := later 20000 { ready with allocator := { ready.allocator with stage := 1, releaseFrom := some 0 } }
    let t := after (.writeBudget hdr [0, 65535, 65535, 0xFFFF, 10, 0xFFFF]) s
    [(after .releaseTimerExpiry t).allocator.stage,
      (after .releaseTimerExpiry (after (.digitalInputSample 0x8000) t)).allocator.stage] = [1, 0] := by decide

theorem witness_ReportWriteStores : Accepted hdr ready ∧ (63 : Word).toNat < 64 := by unfold Accepted; decide

theorem witness_SetPlanChangesThePlan : Accepted hdr ready ∧ (0 : Fin 8) = ready.plan ∧ (7 : Fin 8) ≠ ready.plan := by
  unfold Accepted; decide

/-- The gate of 7.5 where a DEMAND begins a warning, calls it back, and sends it back from OPENING. -/
theorem witness_DemandsSetAndRelease :
    let at? (st : GateState) : State := gate (fun x => { x with state := st }) { closing with loop := ready.loop }
    let asking (v : Word) (st : GateState) := (after (.demand hdr [1, v, 60]) (at? st)).gates[(0 : Fin 2)]
    Accepted hdr (at? .opened) ∧
      [(asking 2 .opened).state, (asking 1 .warning).state, (asking 2 .opening).state, (asking 2 .stopped).state] =
        [.warning, .opened, .warning, .warning] ∧
      (asking 1 .warning).detail = some .demand := by unfold Accepted; decide

theorem witness_HoldExpiryRemovesThePart :
    let s := later 1000 { ready with
      demands := { ready.demands with
        pumps := { ready.demands.pumps with supervisory := some { value := 2, hold := 1 } } } }
    1000 ≤ s.time.msToSecond ∧ s.demands.testAt .pumps (fun r => r.supervisory.any fun v => v.hold == 1) = true := by
  decide

theorem witness_GateStopStops :
    let s := gate (fun x => { x with state := .closing }) ready
    Accepted hdr s ∧ s.gates[(0 : Fin 2)].state ∈ [GateState.warning, .closing, .reversing, .opening] ∧
      ready.gates[(0 : Fin 2)].state ∉ [GateState.warning, .closing, .reversing, .opening] := by
  unfold Accepted; decide

theorem witness_FaultsCleared :
    let s := pump 0 (fun x => { x with state := .locked, config := { x.config with available := true } }) ready
    let t := gate (fun x => { x with state := .fault }) ready
    (Accepted hdr s ∧ s.pumps[(0 : Fin 4)].state = .locked ∧ s.inputActive s.pumps[(0 : Fin 4)].config.fault = false ∧
        s.pumps[(0 : Fin 4)].config.available = true) ∧
      (Accepted hdr t ∧ t.gates[(0 : Fin 2)].state = .fault ∧ t.atOpen 0 = false ∧ t.atClosed 0 = false) ∧
      ready.pumps[(0 : Fin 4)].state ≠ .locked ∧ ready.gates[(0 : Fin 2)].state ≠ .fault := by
  unfold Accepted; decide

/-- A gate in FAULT with one limit active, under each demand and each reopen condition. -/
theorem witness_FaultsCleared_limits :
    let at? (i : Fin 16) (d : GateDemand) : State :=
      lit i (gate (fun x => { x with state := .fault, demand := d })
        { closing with digital := ready.digital, loop := ready.loop })
    let held := (at? 9 .open).putTracker 1 { (at? 9 .open).trackers[(1 : Fin 4)] with state := .tracking, effective := some 0 }
    (∀ d ∈ [GateDemand.none, .open, .close], Accepted hdr (at? 8 d) ∧
      ((at? 8 d).atOpen 0, (at? 8 d).atClosed 0) = (true, false) ∧
      ((at? 9 d).atOpen 0, (at? 9 d).atClosed 0) = (false, true)) ∧
      (after (.clearFaultGate hdr [0]) (at? 8 .close)).gates[(0 : Fin 2)].state = .warning ∧
      (after (.clearFaultGate hdr [0]) (at? 9 .open)).gates[(0 : Fin 2)].state = .closed ∧
      (after (.clearFaultGate hdr [0]) held).gates[(0 : Fin 2)].state = .opening := by unfold Accepted; decide

theorem witness_ConvertPlacesTheRequest :
    let s := { ready with
      converter := { ready.converter with inFlight := some { input := 0, kind := .scan, start := 0 } } }
    (Accepted hdr ready ∧ ready.converter.slot = .empty ∧ ready.converter.inFlight = none) ∧
      Accepted hdr s ∧ s.converter.slot = .empty ∧ s.converter.inFlight ≠ none := by unfold Accepted; decide

theorem witness_AlarmAndPresets : Accepted mhdr keyed ∧ mhdr.maintenance = true := by unfold Accepted; decide

theorem witness_ForceAndUnforce :
    let s := tank (fun x => { x with state := .forced, band := some 0 }) keyed
    Accepted mhdr s ∧ mhdr.maintenance = true ∧ s.trackers[(0 : Fin 4)].state = .forced := by unfold Accepted; decide

theorem witness_ConversionCompletes :
    let f : Conversion := { input := 3, kind := .oneShot, start := 4 }
    let s := later 5 { ready with
      converter := { ready.converter with inFlight := some f, slot := .inFlight 3 (replyTo hdr) } }
    s.converter.inFlight = some f ∧ f.start + 1 ≤ s.now ∧ f.kind = .oneShot ∧
      s.converter.slot = .inFlight 3 (replyTo hdr) := by decide

/-- A LEVEL input that T0 names, and a CURRENT input that channels 2 and 6 name, 2 the first. -/
theorem witness_ConversionCompletes_consumers :
    let role (r : AnalogRole) : State :=
      later 3000 (ready.putAnalog 3 { resetAnalog with config := { resetAnalog.config with role := r } })
    let fed := tank (fun x => { x with config := { x.config with primary := some (.analog 3) } }) (role .level)
    let named (c : Fin 8) := lamp c (fun l => { l with config := { l.config with current := some 3 } })
    let lit' := named 6 (named 2 (role .current))
    fed.trackers[(0 : Fin 4)].config.primary = some (.analog 3) ∧
      (lit'.analog[(3 : Fin 16)].config.role = .current ∧ lit'.lamps[(2 : Fin 8)].config.current = some 3) ∧
      (∀ d : Fin 8, d < 2 → lit'.lamps[d].config.current ≠ some 3) ∧
      lit'.lamps[(2 : Fin 8)].lastChange + 2000 ≤ lit'.now ∧
      (later 1999 lit').now < lit'.lamps[(2 : Fin 8)].lastChange + 2000 := by decide

/-- R133: the third failing check of channel 6 puts a fault into the warning set of the gate in WARNING, whose lead of 30 s is
lengthened to 60 s, or, at 60 s already, ends. -/
theorem witness_ConversionCompletes_lead :
    let at? (n : Nat) : State :=
      later n (lamp 6 (fun l =>
        { l with
          output := 255, verdict := .fail, count := 2
          config := { l.config with current := some 3, fullCurrent := 150, tolerance := 20 } })
        (gate (fun x => { x with state := .warning, demand := .close, leadFrom := some 0, leadInForce := some 30 })
          { closing with
            analog := closing.analog.set 3 { resetAnalog with config := { resetAnalog.config with role := .current } }
            converter := { closing.converter with inFlight := some { input := 3, kind := .scan, start := 0 } } }))
    let t (n : Nat) := after (.conversionComplete 0) (at? n)
    (at? 5000).lamps[(6 : Fin 8)].fault = false ∧ (t 5000).lamps[(6 : Fin 8)].fault = true ∧
      (t 5000).gates[(0 : Fin 2)].leadInForce = some 60 ∧ (t 60000).gates[(0 : Fin 2)].state = .closing := by decide

/-- Digital input i with a change due to this state. -/
def changing (i : Fin 16) (raw : Bool) (edges : Edges) (s : State) : State :=
  s.putDigital i
    { s.digital[i] with
      changeDue := true, raw := raw, filtered := !raw, config := { activeLow := false, debounce := 0, edges := edges } }

theorem witness_FilteredStateChanges :
    let s := changing 6 true .both ready
    s.digital[(6 : Fin 16)].changeDue = true ∧ s.report.enables.getLsbD 20 = false ∧
      { s with report := { s.report with enables := 0x3FFFFF } }.report.enables.getLsbD 20 = true ∧
      (tank (fun x => { x with hold := { x.hold with floatInput := some 6 } }) s).trackers[(0 : Fin 4)].hold.floatInput =
        some 6 ∧
      (∀ j : Fin 4, s.trackers[j].hold.floatInput ≠ some 6) ∧
      (SupplyMode.standby ≠ s.allocator.mode ∧ SupplyMode.mains = s.allocator.mode) := by decide

theorem witness_FilteredStateChanges_pumps :
    let faulted := changing 5 true .none (pump 0 (fun x =>
      { x with state := .runOn, config := { x.config with fault := some 5 } }) ready)
    let confirmed := changing 0 true .none (pump 0 (fun x =>
      { x with state := .starting, config := { x.config with minimumRun := 1 } }) ready)
    let dropped := changing 0 false .none (pump 0 (fun x => { x with state := .runOn }) ready)
    (faulted.digital[(5 : Fin 16)].changeDue = true ∧ faulted.pumps[(0 : Fin 4)].config.fault = some 5 ∧
        faulted.pumps[(0 : Fin 4)].config.feedback ≠ 5 ∧ faulted.pumps[(0 : Fin 4)].state = .runOn) ∧
      (confirmed.pumps[(0 : Fin 4)].config.feedback = 0 ∧ confirmed.allocator.budget.supply ≠ some 0 ∧
        confirmed.pumps[(0 : Fin 4)].state = .starting ∧ 0 < confirmed.pumps[(0 : Fin 4)].config.minimumRun) ∧
      dropped.digital[(0 : Fin 16)].raw = false ∧ dropped.pumps[(0 : Fin 4)].state = .runOn := by decide

theorem witness_FilteredStateChanges_gates :
    let at? (i : Fin 16) (raw : Bool) (st : GateState) (d : GateDemand) : State :=
      changing i raw .none (gate (fun x =>
        { x with
          state := st, demand := d, leadFrom := some 0, leadInForce := some 0 }) closing)
    let limits (s : State) : Bool × Bool := (s.filtered 8, s.filtered 9)
    (∀ st ∈ [GateState.absent, .opened, .warning, .closing, .closed, .opening, .reversing, .stopped, .fault],
      (at? 8 true st .close).digital[(8 : Fin 16)].changeDue = true ∧ (at? 8 true st .none).gates[(0 : Fin 2)].state = st) ∧
      (limits (lit 9 (at? 8 true .closing .close)) = (false, true) ∧ limits (at? 9 true .closing .close) = (true, false)) ∧
      ((at? 12 false .warning .close).leadElapsed 0 = true ∧
        (at? 12 true .closing .close).gates[(0 : Fin 2)].config.obstruction = some 12 ∧
        0 < (at? 12 true .closing .close).gates[(0 : Fin 2)].config.reverse) ∧
      0 < (at? 8 true .opening .close).leadAtEntry (at? 8 true .opening .close).gates[(0 : Fin 2)].config ∧
      min ((at? 8 true .reversing .close).gates[(0 : Fin 2)].retry + 1) 8 ≤
        (at? 8 true .reversing .close).gates[(0 : Fin 2)].config.retryLimit := by decide

theorem witness_FilterMovesTowardTheSample : resetTracker.accumulator ≤ 262128 ∧ (262128 : Nat) ≤ 262128 := by decide

theorem witness_BandSteps : (0 : Nat) ≤ stormThresholds.length ∧ stormThresholds.length ≤ stormThresholds.length ∧
    stepBand stormThresholds 905 (some 1) = some 2 ∧ stepBand stormThresholds 845 (some 2) = some 1 := by decide

theorem witness_TrackerTimers :
    let s := later 10000 (slot0 900 0 (tank (fun x =>
      { x with
        state := .acquire, active := .primary, band := some 0, lockFrom := some 0, watch := some 0,
        config := { x.config with primary := some (.slot 0) } }) ready))
    let x := s.trackers[(0 : Fin 4)]
    (x.state = .acquire ∧ x.phase = .fast ∧ x.lockFrom = some 0 ∧ 0 + x.config.lockTime / 2 * 1000 ≤ s.now) ∧
      0 + x.config.lockTime * 1000 ≤ s.now ∧ x.watch = some 0 ∧
      s.lastSample x.config.primary = some { value := 900, quality := .good, arrival := 0 } ∧
      0 + x.config.sampleTimeout < s.now := by decide

/-- A tracker that has lost its primary, an unconverted input, and may go over to slot 0. -/
def losing (st : TrackerState) (arrival : Nat) : State :=
  later 3000 (slot0 1452 arrival (tank (fun x =>
    { x with
      state := st, active := .primary, band := some 0, estimate := 1480, accumulator := 23680, sampleFrom := some 1000,
      config := { x.config with primary := some (.analog 4), secondary := some (.slot 0) } }) ready))

theorem witness_SampleTimerLosesTheSource :
    ∀ st ∈ [TrackerState.acquire, .tracking],
      let s := losing st 2000
      let x := s.trackers[(0 : Fin 4)]
      (x.active = .primary ∧ x.sampleFrom = some 1000 ∧ 1000 + x.config.sampleTimeout ≤ s.now ∧ x.state = st) ∧
        validSample s.now x.config.sampleTimeout (s.lastSample x.config.secondary) = true ∧
        ((x.estimate : Int) - 1452).natAbs ≤ x.hold.offsetLimit ∧
        validSample (losing st 0).now x.config.sampleTimeout ((losing st 0).lastSample x.config.secondary) = false := by
  decide

theorem witness_HoldoverTimeoutAndRevert :
    let s := later 1000 (tank (fun x => { x with state := .holdover, band := some 0, holdSeconds := 599 }) ready)
    let t := later 30000 (slot0 1486 29000 (tank (fun x =>
      { x with
        state := .tracking, active := .secondary, band := some 0, estimate := 1484, watch := some 0,
        config := { x.config with primary := some (.slot 0), secondary := some (.slot 1) } }) ready))
    let x := s.trackers[(0 : Fin 4)]
    let y := t.trackers[(0 : Fin 4)]
    (1000 ≤ s.time.msToSecond ∧ x.state = .holdover ∧ x.hold.timeout ≠ 0 ∧ x.hold.timeout ≤ x.holdSeconds + 1) ∧
      (1000 ≤ t.time.msToSecond ∧ y.state = .tracking ∧ y.active = .secondary ∧ y.hold.revertTime ≠ 0) ∧
      (y.watch = some 0 ∧ 0 + y.hold.revertTime * 1000 ≤ t.now) ∧
      t.lastSample y.config.primary = some { value := 1486, quality := .good, arrival := 29000 } ∧
      validSample t.now y.config.sampleTimeout (t.lastSample y.config.primary) = true ∧
      validSample (later 31001 t).now y.config.sampleTimeout ((later 31001 t).lastSample y.config.primary) = false := by
  decide

theorem witness_SecondTickAdvances :
    1000 ≤ (later 1000 ready).time.msToSecond ∧
      ready.pumps[(0 : Fin 4)].state ≠ .running ∧ ready.pumps[(0 : Fin 4)].state ≠ .runOn := by decide

/-- A second tick that bleeds an offset of 28 and finds a rate of 420 above a surge rate of 300. -/
theorem witness_SecondTickAdvances_tracker :
    let s := later 1000 (tank (fun x =>
      { x with
        state := .tracking, active := .secondary, band := some 0, effective := some 0, estimate := 1250, offset := 28,
        ring := (List.range 16).map (fun k => { level := if k = 9 then 1180 else 1250, valid := true }),
        hold := { x.hold with surgeRate := 300 } }) ready)
    let t := after .secondTick s
    let x := t.trackers[(0 : Fin 4)]
    s.trackers[(0 : Fin 4)].watch = none ∧ (x.offset = 27 ∧ x.rate = 420 ∧ x.rateValid = true ∧ x.surge = true) := by
  decide

/-- A hold of 1 that the tick ends; no hold. -/
theorem witness_SecondTickAdvances_hold :
    let s := later 1000 { ready with
      demands := { ready.demands with pumps := { ready.demands.pumps with supervisory := some { value := 2, hold := 1 } } } }
    s.demands.SomeHold (fun hold => hold = 1) ∧ ¬ready.demands.SomeHold (fun hold => hold = 1) := by
  refine ⟨.inl ⟨_, rfl, rfl⟩, ?_⟩
  rintro (⟨v, h, -⟩ | ⟨g, v, h, -⟩ | ⟨z, v, h, -⟩)
  · cases h
  · revert g v; decide
  · revert z v; decide

/-- A pump that runs through the tick. -/
theorem witness_SecondTickAdvances_pump :
    let s := later 1000 (pump 0 (fun x => { x with state := .running, runSeconds := 4294967294 }) ready)
    let t := after .secondTick { s with group := { s.group with demand := 1 } }
    s.pumps[(0 : Fin 4)].state = .running ∧ t.pumps[(0 : Fin 4)].state = .running ∧
      t.pumps[(0 : Fin 4)].runSeconds = 4294967295 := by decide

theorem witness_BandChangeFires :
    let leave : ActionEntry := { actionEntry with band := some 1, edge := .leave, items := [.pumps 3, .event 9] }
    let s := ((ready.putAction 5 actionEntry).putAction 6 leave).putAction 7
      { actionEntry with tracker := 1, band := none, plans := 8, items := [.event 12, .plan 2] }
    let t := s.putAction 5 { actionEntry with items := [.plan 3, .gate 0 .open] }
    ready.findEntry 0 (some 2) .enter 0 = none ∧
      s.firedItems 0 (some 1) (some 2) = [(6, .pumps 3), (6, .event 9), (5, .pumps 2)] ∧
      (lastPlan (t.firedItems 0 (some 1) (some 2)) = some (3, 5) ∧ (3 : Fin 8) ≠ t.plan) ∧
      (t.cascadeItems 3 = [(7, .event 12), (7, .plan 2)] ∧ lastPlan (t.cascadeItems 3) = some (2, 7)) ∧
      lastEvent (t.firedItems 0 (some 1) (some 2) ++ t.cascadeItems 3) = some (12, 7) ∧ t.enabled actionSource = true := by
  decide

/-- A GATE item to a STOPPED gate, under each demand and each reopen condition. -/
theorem witness_BandChangeFires_gate :
    let s := gate (fun x => { x with state := .stopped, retry := 2 }) { closing with digital := ready.digital }
    let t := s.putTracker 1 { s.trackers[(1 : Fin 4)] with state := .tracking, effective := some 0 }
    s.gates[(0 : Fin 2)].state = .stopped ∧ 0 < s.leadAtEntry s.gates[(0 : Fin 2)].config ∧ s.atOpen 0 = false ∧
      s.reopenHolds 0 = false ∧ t.reopenHolds 0 = true ∧
      ∀ v, effectiveGate { automatic := v, entry := none, supervisory := none } = v := by
  refine ⟨by decide, by decide, by decide, by decide, by decide, fun v => by cases v <;> rfl⟩

theorem witness_PumpTimers :
    let s := later 10000 (pump 0 (fun x => { x with state := .starting, confirmFrom := some 0 }) ready)
    let t := later 10000 (pump 0 (fun x => { x with state := .runOn, runOnFrom := some 0 }) ready)
    (s.pumps[(0 : Fin 4)].state = .starting ∧ s.pumps[(0 : Fin 4)].confirmFrom = some 0 ∧
        0 + s.pumps[(0 : Fin 4)].config.confirm * 1000 ≤ s.now) ∧
      (t.pumps[(0 : Fin 4)].state = .runOn ∧ t.pumps[(0 : Fin 4)].runOnFrom = some 0 ∧
        0 + t.pumps[(0 : Fin 4)].config.runOn * 1000 ≤ t.now) ∧
      1000 ≤ s.time.msToSecond := by decide

theorem witness_ReleaseLowersTheStage :
    let s := later 60000 { ready with
      allocator := { ready.allocator with stage := 1, releaseFrom := some 0 } }
    0 < s.allocator.stage ∧ s.allocator.releaseFrom = some 0 ∧ 0 + s.allocator.budget.release * 1000 ≤ s.now ∧
      s.allocator.writtenAt = none ∧
      (after (.writeBudget hdr (0 :: budgetRecord)) s).allocator.writtenAt = some s.now := by decide

theorem witness_GateTimers :
    let s := later 60000 (gate (fun x =>
      { x with state := .warning, demand := .close, leadFrom := some 0, leadInForce := some 30 }) closing)
    let t := later 60000 (gate (fun x => { x with state := .closing, travelFrom := some 0 }) closing)
    let u := later 60000 (gate (fun x => { x with state := .reversing, demand := .close, reverseFrom := some 0 }) closing)
    (s.gates[(0 : Fin 2)].state = .warning ∧ s.gates[(0 : Fin 2)].leadFrom = some 0 ∧
        s.gates[(0 : Fin 2)].leadInForce = some 30 ∧ 0 + 30 * 1000 ≤ s.now) ∧
      (s.obstructed 0 = false ∧ (lit 12 s).obstructed 0 = true ∧ s.atClosed 0 = false ∧ (lit 9 s).atClosed 0 = true) ∧
      (t.gates[(0 : Fin 2)].state ∈ [GateState.closing, .opening] ∧ t.gates[(0 : Fin 2)].travelFrom = some 0 ∧
        0 + t.gates[(0 : Fin 2)].config.travel * 1000 ≤ t.now) ∧
      (u.gates[(0 : Fin 2)].state = .reversing ∧ u.gates[(0 : Fin 2)].reverseFrom = some 0 ∧
        0 + u.gates[(0 : Fin 2)].config.reverse * 1000 ≤ u.now ∧ 0 < u.leadAtEntry u.gates[(0 : Fin 2)].config) ∧
      (gate (fun x => { x with config := { x.config with lead := 0 } }) u).leadAtEntry
        { u.gates[(0 : Fin 2)].config with lead := 0 } = 0 := by
  decide

theorem witness_RampTickSteps :
    100 ≤ (later 100 generator).time.msToRamp ∧ generator.committed ≤ generator.activeBudget ∧
      generator.lamps[(0 : Fin 8)].config.role = .general := by decide

/-- Channel 0 of 9.7 below its target: its step fits a budget of 4000 and not one of 3044. -/
theorem witness_RampTickSteps_up :
    let s := later 100 (lamp 0 (fun l => { l with target := 255 }) generator)
    let poor := { s with allocator := { s.allocator with budget := { s.allocator.budget with mains := 3044 } } }
    s.lamps[(0 : Fin 8)].output < s.lamps[(0 : Fin 8)].target ∧ s.group.waiting = false ∧
      (after .rampTick s).lamps[(0 : Fin 8)].output = 255 ∧ (after .rampTick poor).lamps[(0 : Fin 8)].limited = true := by
  decide

theorem witness_RaiseEvent :
    ready.enabled 0 = true ∧ ready.enabled 20 = false ∧ ready.events.records[(0 : Fin 22)].pending = false ∧
      (raise 0 [1] ready).events.records[(0 : Fin 22)].pending = true ∧ (1 : Fin 22) ≠ 0 := by decide

/-- The generator of 9.7 with a frame leaving and a ramp tick waiting in its queue. -/
def working : State :=
  let s := later 100 generator
  { s with loop := { s.loop with departing := some [0, checkWord [0]] }, pending := [.rampTick] }

theorem test_working_steps : step working = .next (after .rampTick { working with pending := [] }) := rfl

theorem witness_RepliesKept : working.ReplyLaw := by unfold State.ReplyLaw; decide
theorem witness_LoadKept : working.LoadLaw := by unfold State.LoadLaw; decide
theorem witness_WarningsKept : working.WarningLaw := by unfold State.WarningLaw; decide
theorem witness_NoOverlapKept : (working.putAction 5 actionEntry).OverlapLaw := by
  have h : ∀ e : Fin 64, e ≠ 5 → (working.putAction 5 actionEntry).actions[e].valid = false := by decide
  intro e f n a b
  by_cases he : e = 5
  · by_cases hf : f = 5
    · exact absurd (he.trans hf.symm) n
    · exact absurd ((h f hf).symm.trans b) nofun
  · exact absurd ((h e he).symm.trans a) nofun
theorem witness_DemandsKept : working.DemandLaw := by unfold State.DemandLaw; decide
theorem witness_DryProtectionKept : working.DryLaw := by unfold State.DryLaw; decide
theorem witness_ValuesKept : working.LevelLaw ∧ working.RangeLaw := by
  refine ⟨⟨by decide, by decide, ?_⟩, by unfold State.RangeLaw; decide⟩
  have h : ∀ t : Fin 4, working.trackers[t] = resetTracker := by decide
  intro t
  rw [h t]
  exact ⟨by decide, by decide, rfl, rfl⟩
theorem witness_TimersKept : working.TimerLaw := by unfold State.TimerLaw; decide
theorem witness_RecordsKept : working.FrameLaw ∧ working.EventLaw ∧ working.LossLaw := by
  refine ⟨⟨nofun, ?_⟩, by unfold State.EventLaw; decide, by unfold State.LossLaw; decide⟩
  rintro frame ⟨⟩
  exact ⟨⟨[0], rfl⟩, by decide⟩

end Sys2Proof.Tests
end

