-- ==== Sys2Proof/Proofs/Slots.lean ====
section
/-! Remote Sample Slots (R13, R14): what empties them, what an empty one answers, and what a capture stores. -/

namespace Sys2Proof.Machine

/-! ## The resets -/

/-- A master reset empties every slot (R13). -/
theorem resetState_slots (straps : Byte) (levels : Word) (factory : FactoryStore) (arbiter : Nat)
    (pending : List Instr) (j : Fin 8) :
    (resetState straps levels factory arbiter pending).slots[j] = emptySlot :=
  Vector.getElem_replicate ..

/-- A line reset empties every slot (R13). -/
theorem lineReset_slots (s : State) (j : Fin 8) : (lineReset s).slots[j] = emptySlot :=
  Vector.getElem_replicate ..

/-- An accepted LINE_RESET is the line reset of the part, with its own reply completed after it (R24, R31). -/
theorem exec_lineReset_accepted {h : CellHeader} {s : State} (a : Accepted h s) :
    exec (.lineReset h []) s =
      .next (completeLast (replyTo h) .done [] (lineReset (reserveReply (replyTo h) s))) := by
  have up : s.loop.state = .up := a.1
  calc exec (.lineReset h []) s
      _ = .next (offer (some .lineReset) h [] s) := offerRow_up up .lineReset h []
      _ = .next (completeLast (replyTo h) .done [] (lineReset (reserveReply (replyTo h) s))) :=
        congrArg _ (offer_accepted a nofun)

/-- Completing a reply touches no slot. -/
@[simp] theorem completeLast_slots (reply : ReplyTo) (status : Status) (data : List Word) (s : State) :
    (completeLast reply status data s).slots = s.slots := rfl

/-! ## Reading a slot -/

/-- An empty slot has no last sample (R52). -/
theorem lastSample_empty {s : State} {j : Fin 8} (empty : s.slots[j].filled = false) :
    s.lastSample (some (.slot j)) = none :=
  if_neg (Bool.eq_false_iff.mp empty)

/-! ## Captures -/

/-- The trackers' events touch no slot, whichever trackers have one. -/
theorem updateTrackers_slots (f : Fin 4 → Sources → Tracker → Tracker) (ts : List (Fin 4)) (s : State) :
    (updateTrackers ts f s).1.slots = s.slots := by
  suffices fold : ∀ acc : State × List Notice,
      (ts.foldl (fun a t => let r := updateTracker t (f t) a.1; (r.1, a.2 ++ r.2)) acc).1.slots = acc.1.slots from
    fold (s, [])
  induction ts with
  | nil => exact fun _ => rfl
  | cons t ts ih => exact fun acc => (ih _).trans (updateTracker_told t (f t) acc.1).slots

/-- A sample handed to the trackers touches no slot: neither their events nor the notices that follow do. -/
@[simp] theorem sampleArrival_slots (src : Source) (sample : Nat) (q : Quality) (s : State) :
    (sampleArrival src sample q s).slots = s.slots :=
  (deliverAll_untouched _ _).slots.trans (updateTrackers_slots _ _ s)

/-- What a capture stores in its slot when the cell carries the element and does not repeat the slot's sequence (R14). -/
theorem capture_slot {e : TagEntry} {cell : List Word} {s : State} {w : Word}
    (present : (elements cell)[e.element.val]? = some w)
    (fresh : ¬(s.slots[e.slot].filled = true ∧ s.slots[e.slot].sequence = cellSequence cell)) :
    (capture e cell s).slots[e.slot] =
      { filled := true, value := elementValue w, quality := elementQuality w, sequence := cellSequence cell,
        arrival := s.now } := by
  simp only [capture, present, if_neg fresh, sampleArrival_slots]
  exact putSlot_get_self ..

/-- An empty slot has no sequence to repeat (R13). -/
theorem not_repeated_of_empty {x : Slot} (empty : x.filled = false) (sequence : Byte) :
    ¬(x.filled = true ∧ x.sequence = sequence) := by
  simp [empty]

/-! ## The statement -/

/-- Settles O5: each reset by what it leaves in the slots, and the first capture by R14's rule for a sequence that is not
repeated, which no cell can repeat on an empty slot. -/
theorem resetsEmptyTheSlots : Obligations.ResetsEmptyTheSlots := by
  refine ⟨?_, ?_, ?_, ?_⟩
  · intro straps levels s
    exact ⟨_, rfl, resetState_slots straps levels s.factory s.arbiter s.pending⟩
  · intro h s a
    refine ⟨_, exec_lineReset_accepted a, fun j => ?_⟩
    rw [completeLast_slots]
    exact lineReset_slots _ j
  · intro s j now timeout empty
    rw [lastSample_empty empty, validSample]
  · intro e cell s w empty present
    rw [capture_slot present (not_repeated_of_empty empty _)]
    exact ⟨rfl, rfl, rfl⟩

end Sys2Proof.Machine
end

