-- ==== Sys2Proof/Proofs/EffectiveDemands.lean ====
section
/-! The effective value of a demand record (R94): by whether its supervisory part is present. -/

namespace Sys2Proof.Machine

/-! ## Pumps -/

/-- Without a supervisory part the automatic value stands alone (R94). -/
theorem effectivePumps_of_absent {r : DemandRecord Nat} (absent : r.supervisory = none) :
    effectivePumps r = r.automatic := by
  rw [effectivePumps, absent]

/-- A supervisory part can raise the pump demand and never lowers it (R94). -/
theorem effectivePumps_of_present {r : DemandRecord Nat} {v : Supervisory Nat} (present : r.supervisory = some v) :
    effectivePumps r = max r.automatic v.value := by
  rw [effectivePumps, present]

/-! ## Gates -/

/-- CLOSE in either part outranks OPEN in either part, and an absent supervisory part counts as NONE (R94). -/
theorem effectiveGate_eq (r : DemandRecord GateDemand) :
    effectiveGate r =
      if r.automatic = .close ∨ (r.supervisory.map Supervisory.value).getD .none = .close then .close
      else if r.automatic = .open ∨ (r.supervisory.map Supervisory.value).getD .none = .open then .open
      else .none := by
  cases present : r.supervisory with
  | none => simp only [effectiveGate, present, Option.map_none, Option.getD_none]
  | some v => simp only [effectiveGate, present, Option.map_some, Option.getD_some]

/-! ## Zones -/

/-- A supervisory part replaces the automatic scene while it is present (R94). -/
theorem effectiveScene_eq (r : DemandRecord (Fin 16)) :
    effectiveScene r = (r.supervisory.map Supervisory.value).getD r.automatic := by
  cases present : r.supervisory with
  | none => rw [effectiveScene, present, Option.map_none, Option.getD_none]
  | some v => rw [effectiveScene, present, Option.map_some, Option.getD_some]

/-! ## The statement -/

/-- Settles O14: the rule of each kind of record, at a record written out by its parts. -/
theorem effectiveDemands : Obligations.EffectiveDemands := by
  refine ⟨?pumps, ?gates, ?zones⟩
  case pumps => exact fun n e v => ⟨effectivePumps_of_absent rfl, effectivePumps_of_present rfl⟩
  case gates => exact fun a e v => effectiveGate_eq { automatic := a, entry := e, supervisory := v }
  case zones => exact fun n e v => effectiveScene_eq { automatic := n, entry := e, supervisory := v }

end Sys2Proof.Machine
end

