-- ==== Sys2Proof/Proofs/Events.lean ====
section
/-! Raising an event (R164): what one occurrence leaves in its source's record, and that it touches nothing else. -/

namespace Sys2Proof.Machine

/-! ## The record of one source -/

/-- The record of an enabled source after one more occurrence (R164). -/
def EventRecord.afterEvent (r : EventRecord) (detail : List Word) : EventRecord :=
  { pending := true, detail := detail, count := if r.pending then min (r.count + 1) 255 else 1 }

/-- The first occurrence on an idle source counts 1, whatever stood in its record (R164). -/
theorem EventRecord.afterEvent_of_idle {r : EventRecord} (idle : r.pending = false) (detail : List Word) :
    r.afterEvent detail = { pending := true, detail := detail, count := 1 } := by
  rw [EventRecord.afterEvent, if_neg (Bool.eq_false_iff.mp idle)]

/-- A later occurrence is counted, up to 255, and its detail replaces the latched one (R164). -/
theorem EventRecord.afterEvent_of_pending {r : EventRecord} (pending : r.pending = true) (detail : List Word) :
    r.afterEvent detail = { pending := true, detail := detail, count := min (r.count + 1) 255 } := by
  rw [EventRecord.afterEvent, if_pos pending]

/-! ## Raising on a source -/

/-- A disabled source is left as it was (R164). -/
theorem raise_of_disabled {n : Fin 22} {s : State} (off : s.enabled n = false) (detail : List Word) :
    raise n detail s = s := if_neg (Bool.eq_false_iff.mp off)

/-- An event on an enabled source replaces that source's record, and nothing else (R164). -/
theorem raise_of_enabled {n : Fin 22} {s : State} (on : s.enabled n = true) (detail : List Word) :
    raise n detail s = s.putEvent n (s.events.records[n].afterEvent detail) := if_pos on

/-- The enables stand in the REPORT record, which no event changes (R163). -/
@[simp] theorem putEvent_enabled (s : State) (n m : Fin 22) (x : EventRecord) :
    (s.putEvent n x).enabled m = s.enabled m := rfl

/-- The REPORT record decides which sources are enabled, so no event enables or disables one (R163). -/
@[simp] theorem raise_enabled (n m : Fin 22) (detail : List Word) (s : State) :
    (raise n detail s).enabled m = s.enabled m := by
  cases on : s.enabled n with
  | false => rw [raise_of_disabled on]
  | true => rw [raise_of_enabled on, putEvent_enabled]

/-- The detail handed over is the one latched (R164). -/
theorem raise_detail {n : Fin 22} {s : State} (on : s.enabled n = true) (detail : List Word) :
    (raise n detail s).events.records[n].detail = detail := by
  rw [raise_of_enabled on, putEvent_get, if_pos rfl, EventRecord.afterEvent]

/-! ## Different sources -/

/-- Records of different sources are replaced in either order. -/
theorem putEvent_comm {n m : Fin 22} (ne : m ≠ n) (x y : EventRecord) (s : State) :
    (s.putEvent n x).putEvent m y = (s.putEvent m y).putEvent n x := by
  have records : (s.events.records.set n x).set m y = (s.events.records.set m y).set n x :=
    Vector.set_comm x y fun same => ne (Fin.ext same.symm)
  simp only [State.putEvent, records]

/-- The record that an event builds on stands as it was after a write to another source's record. -/
theorem putEvent_get_ne {n m : Fin 22} (ne : m ≠ n) (x : EventRecord) (s : State) :
    (s.putEvent n x).events.records[m] = s.events.records[m] := by
  rw [putEvent_get, if_neg ne.symm]

/-- Events on different sources need no order among them (R164): each builds on its own record, and neither changes an
enable. -/
theorem raise_comm {n m : Fin 22} (ne : m ≠ n) (detail later : List Word) (s : State) :
    raise m later (raise n detail s) = raise n detail (raise m later s) := by
  cases onN : s.enabled n with
  | false => rw [raise_of_disabled onN, raise_of_disabled ((raise_enabled m n later s).trans onN)]
  | true =>
    cases onM : s.enabled m with
    | false => rw [raise_of_disabled onM, raise_of_disabled ((raise_enabled n m detail s).trans onM)]
    | true =>
      rw [raise_of_enabled onN, raise_of_enabled onM, raise_of_enabled (s := s.putEvent n _) onM,
        raise_of_enabled (s := s.putEvent m _) onN, putEvent_get_ne ne, putEvent_get_ne ne.symm, putEvent_comm ne]

/-! ## The statement -/

/-- Settles O50: one case per row of R164's table, then the latest detail and the order of different sources. -/
theorem raiseEvent : Obligations.RaiseEvent := by
  intro n detail later s
  refine ⟨?disabled, ?idle, ?pending, ?latest, ?order⟩
  case disabled => exact fun off => raise_of_disabled off detail
  case idle =>
    intro on idle
    rw [raise_of_enabled on, EventRecord.afterEvent_of_idle idle, State.putEvent]
  case pending =>
    intro on pending
    rw [raise_of_enabled on, EventRecord.afterEvent_of_pending pending, State.putEvent]
  case latest => exact fun on => raise_detail ((raise_enabled n n detail s).trans on) later
  case order => exact fun m ne => raise_comm ne detail later s

end Sys2Proof.Machine
end
